-- ==== Sys2Proof/Word.lean ====
section
/-! DEFINITION. The two word types of the block: a bus or command word of 32 bits, a codeword byte. -/

namespace Sys2Proof

/-- A 32-bit bus word, register or command word (10_state.md R22, 30_encoding.md R90). -/
abbrev Word := BitVec 32

/-- One 8-bit codeword (42_rs_deinterleaver.md R170). -/
abbrev Byte := BitVec 8

end Sys2Proof
end

