-- ==== Sys2Proof/Config.lean ====
section
/-! DEFINITION. The named parameters of 00_scope.md R9, and the free values: opaque constants without a body, which
stand for whatever the spec leaves unspecified. The tables of R9 stand in Sys2Proof/Machine/Tables.lean. -/

namespace Sys2Proof.Config

/-- VERSION_MIN (00_scope.md R9). -/
def versionMin : Nat := 1

/-- VERSION_MAX (00_scope.md R9). -/
def versionMax : Nat := 40

/-- EC_LEVELS, the number of error-correction levels: L, M, Q, H (00_scope.md R9). -/
def ecLevels : Nat := 4

/-- The bits of the level indicator (00_scope.md R9, 41_zigzag_reader.md R136). -/
def ecLevelBits : Nat := 2

/-- MASK_IDS, the mask ids 0..7 (00_scope.md R9). -/
def maskIds : List Nat := List.range 8

/-- The bits of a mask id (00_scope.md R9). -/
def maskIdBits : Nat := 3

/-- FMT_BITS, the bits of a format word (00_scope.md R9). -/
def fmtBits : Nat := 15

/-- The data bits of a format word (00_scope.md R9). -/
def fmtDataBits : Nat := 5

/-- The remainder bits of a format word (00_scope.md R9). -/
def fmtRemainderBits : Nat := 10

/-- FMT_GEN, the BCH generator x^10+x^8+x^5+x^4+x^2+x+1 (00_scope.md R9, 40_format_codec.md R110). -/
def fmtGen : BitVec 15 := 0b10100110111#15

/-- FMT_MASK (00_scope.md R9, 40_format_codec.md R110). -/
def fmtMask : BitVec 15 := 0b101010000010010#15

/-- FMT_BUDGET1, the single-sample correction budget (00_scope.md R9). -/
def fmtBudget1 : Nat := 3

/-- FMT_BUDGET2, the two-sample correction budget (00_scope.md R9). -/
def fmtBudget2 : Nat := 6

/-- RAWBUF_BITS (00_scope.md R9). -/
def rawbufBits : Nat := 29648

/-- MSGBUF_BYTES (00_scope.md R9). -/
def msgbufBytes : Nat := 2956

/-- OUTBUF_ENTRIES (00_scope.md R9). -/
def outbufEntries : Nat := 8192

/-- READ_MAX, the most bits one positional read or append takes (00_scope.md R9). -/
def readMax : Nat := 32

/-- The constant of the ID register (00_scope.md R4). -/
def idValue : Word := 0x51520100#32

/-- FREE VALUE (93_implementation_defined.md U1, U2): the word a bus read returns where the spec leaves it unspecified,
at the draw's number. Nothing can evaluate it (log entry 5). -/
opaque freeBusWord : Nat → Word

/-- FREE VALUE (93_implementation_defined.md U4): the bit the module port reads at column x, row y during the command of
the given draw, when the host changed the module source while that command was BUSY (log entry 6). -/
opaque freeModule : (draw x y : Nat) → Bool

end Sys2Proof.Config
end

