-- ==== Sys2Proof/Syntax.lean ====
section
/-! DEFINITION. The command set: one constructor for each row of spec/opcode_table.json (30_encoding.md R93). -/

namespace Sys2Proof

/-- The operand of FMT_CHECK: which sample register is read (30_encoding.md R91, format SEL). -/
inductive Sample where
  | s1
  | s2
  deriving DecidableEq, Repr

/-- A command of QRDEC-RS. Every operand has the width of its field (30_encoding.md R91). -/
inductive Instr where
  /-- NOP (44_control.md R220). -/
  | nop
  /-- SET_VERSION ver (41_zigzag_reader.md R130). -/
  | setVersion (ver : BitVec 6)
  /-- SET_SIDE side (41_zigzag_reader.md R131). -/
  | setSide (side : BitVec 8)
  /-- SET_FORMAT fv (41_zigzag_reader.md R132). -/
  | setFormat (fv : BitVec 5)
  /-- FMT_ENCODE fv (40_format_codec.md R111). -/
  | fmtEncode (fv : BitVec 5)
  /-- FMT_CHECK S1 or S2 (40_format_codec.md R112). -/
  | fmtCheck (sel : Sample)
  /-- FMT_GATHER (40_format_codec.md R117). -/
  | fmtGather
  /-- FMT_DECODE1 (40_format_codec.md R114). -/
  | fmtDecode1
  /-- FMT_DECODE2 (40_format_codec.md R115). -/
  | fmtDecode2
  /-- MASK_EVAL mid, row, col (41_zigzag_reader.md R138). -/
  | maskEval (mid : BitVec 3) (row col : BitVec 8)
  /-- DZ_QUERY x, y (41_zigzag_reader.md R143). -/
  | dzQuery (x y : BitVec 8)
  /-- ZZ_TRAVERSE (41_zigzag_reader.md R142). -/
  | zzTraverse
  /-- RAW_READ n (41_zigzag_reader.md R146). -/
  | rawRead (n : BitVec 6)
  /-- RAW_REWIND (41_zigzag_reader.md R147). -/
  | rawRewind
  /-- RAW_CLEAR (41_zigzag_reader.md R144). -/
  | rawClear
  /-- RAW_APPEND n (41_zigzag_reader.md R145). -/
  | rawAppend (n : BitVec 6)
  /-- RS_CORRECT (42_rs_deinterleaver.md R176). -/
  | rsCorrect
  /-- MSG_READ n (43_segment_decoder.md R190). -/
  | msgRead (n : BitVec 6)
  /-- MSG_REWIND (43_segment_decoder.md R191). -/
  | msgRewind
  /-- SEG_MODE (43_segment_decoder.md R193). -/
  | segMode
  /-- SEG_COUNT (43_segment_decoder.md R195). -/
  | segCount
  /-- SEG_PAYLOAD (43_segment_decoder.md R197). -/
  | segPayload
  /-- SEG_DECODE (43_segment_decoder.md R204). -/
  | segDecode
  /-- DECODE_ALL (44_control.md R221). -/
  | decodeAll
  deriving DecidableEq, Repr

end Sys2Proof
end

