-- ==== Sys2Proof/WellFormed.lean ====
section
/-! DEFINITION. Which commands have a legal word: the one check the field widths do not make, N at most READ_MAX. -/

namespace Sys2Proof

/-- The bit count of a W-format command is at most READ_MAX = 32 (30_encoding.md R92, R94 c). -/
def countLegal (n : BitVec 6) : Bool := n.toNat ≤ Config.readMax

/-- A command with a legal word (30_encoding.md R94). -/
def Instr.wf : Instr → Bool
  | .rawRead n => countLegal n
  | .rawAppend n => countLegal n
  | .msgRead n => countLegal n
  | .nop => true
  | .setVersion _ => true
  | .setSide _ => true
  | .setFormat _ => true
  | .fmtEncode _ => true
  | .fmtCheck _ => true
  | .fmtGather => true
  | .fmtDecode1 => true
  | .fmtDecode2 => true
  | .maskEval _ _ _ => true
  | .dzQuery _ _ => true
  | .zzTraverse => true
  | .rawRewind => true
  | .rawClear => true
  | .rsCorrect => true
  | .msgRewind => true
  | .segMode => true
  | .segCount => true
  | .segPayload => true
  | .segDecode => true
  | .decodeAll => true

end Sys2Proof
end

