-- ==== Sys2Proof/Decode.lean ====
section
/-! DEFINITION. The decoder of command words and its encoder (30_encoding.md R90-R96). The decoder is total on every
32-bit word and names why it rejects one, in the order of R96. A command is one 32-bit word written in one bus access
(R90, 20_memory.md R61), so no byte order enters. -/

namespace Sys2Proof

/-- Why a word is illegal (30_encoding.md R94). -/
inductive IllegalWord where
  /-- R94 (a): the opcode is not in the table. -/
  | unknownOpcode
  /-- R94 (b): a reserved bit of the format is 1. -/
  | reservedBit
  /-- R94 (c): the format is W and N > 32. -/
  | countTooLarge
  deriving DecidableEq, Repr

/-- OPC, bits [31:24] (30_encoding.md R90). -/
def opcodeOf (w : Word) : BitVec 8 := w.extractLsb' 24 8

/-- The command, when the reserved bits of its format are 0 (30_encoding.md R94 b). -/
def whenZero {k : Nat} (reserved : BitVec k) (i : Instr) : Except IllegalWord Instr :=
  if reserved = 0#k then .ok i else .error .reservedBit

/-- Format N: no operand, [23:0] = 0 (30_encoding.md R91). -/
def formatN (w : Word) (i : Instr) : Except IllegalWord Instr :=
  whenZero (w.extractLsb' 0 24) i

/-- Format V: VER = [5:0] (30_encoding.md R91). -/
def formatV (w : Word) (mk : BitVec 6 → Instr) : Except IllegalWord Instr :=
  whenZero (w.extractLsb' 6 18) (mk (w.extractLsb' 0 6))

/-- Format S: SIDE = [7:0] (30_encoding.md R91). -/
def formatS (w : Word) (mk : BitVec 8 → Instr) : Except IllegalWord Instr :=
  whenZero (w.extractLsb' 8 16) (mk (w.extractLsb' 0 8))

/-- Format F5: FV = [4:0] (30_encoding.md R91). -/
def formatF5 (w : Word) (mk : BitVec 5 → Instr) : Except IllegalWord Instr :=
  whenZero (w.extractLsb' 5 19) (mk (w.extractLsb' 0 5))

/-- The sample a SEL bit names: 0 selects FMT_S1, 1 selects FMT_S2 (30_encoding.md R91). -/
def sampleOf (b : BitVec 1) : Sample := if b = 0#1 then .s1 else .s2

/-- The SEL bit of a sample (30_encoding.md R91). -/
def sampleBit : Sample → BitVec 1
  | .s1 => 0#1
  | .s2 => 1#1

/-- Format SEL: SEL = [0] (30_encoding.md R91). -/
def formatSEL (w : Word) (mk : Sample → Instr) : Except IllegalWord Instr :=
  whenZero (w.extractLsb' 1 23) (mk (sampleOf (w.extractLsb' 0 1)))

/-- Format W: N = [5:0], reserved bits before the range of N (30_encoding.md R91, R96). -/
def formatW (w : Word) (mk : BitVec 6 → Instr) : Except IllegalWord Instr :=
  if w.extractLsb' 6 18 = 0#18 then
    if countLegal (w.extractLsb' 0 6) then .ok (mk (w.extractLsb' 0 6)) else .error .countTooLarge
  else .error .reservedBit

/-- Format MX: MID = [23:21], ROW = [15:8], COL = [7:0], [20:16] = 0 (30_encoding.md R91). -/
def formatMX (w : Word) (mk : BitVec 3 → BitVec 8 → BitVec 8 → Instr) : Except IllegalWord Instr :=
  whenZero (w.extractLsb' 16 5) (mk (w.extractLsb' 21 3) (w.extractLsb' 8 8) (w.extractLsb' 0 8))

/-- Format XY: Y = [15:8], X = [7:0], [23:16] = 0; the command takes x first (30_encoding.md R91, R97). -/
def formatXY (w : Word) (mk : BitVec 8 → BitVec 8 → Instr) : Except IllegalWord Instr :=
  whenZero (w.extractLsb' 16 8) (mk (w.extractLsb' 0 8) (w.extractLsb' 8 8))

/-- The opcode map (30_encoding.md R93). -/
def decode (w : Word) : Except IllegalWord Instr :=
  match opcodeOf w with
  | 0x00#8 => formatN w .nop
  | 0x01#8 => formatV w .setVersion
  | 0x02#8 => formatS w .setSide
  | 0x03#8 => formatF5 w .setFormat
  | 0x10#8 => formatF5 w .fmtEncode
  | 0x11#8 => formatSEL w .fmtCheck
  | 0x12#8 => formatN w .fmtGather
  | 0x13#8 => formatN w .fmtDecode1
  | 0x14#8 => formatN w .fmtDecode2
  | 0x20#8 => formatMX w .maskEval
  | 0x21#8 => formatXY w .dzQuery
  | 0x22#8 => formatN w .zzTraverse
  | 0x30#8 => formatW w .rawRead
  | 0x31#8 => formatN w .rawRewind
  | 0x32#8 => formatN w .rawClear
  | 0x33#8 => formatW w .rawAppend
  | 0x40#8 => formatN w .rsCorrect
  | 0x50#8 => formatW w .msgRead
  | 0x51#8 => formatN w .msgRewind
  | 0x60#8 => formatN w .segMode
  | 0x61#8 => formatN w .segCount
  | 0x62#8 => formatN w .segPayload
  | 0x63#8 => formatN w .segDecode
  | 0x70#8 => formatN w .decodeAll
  | _ => .error .unknownOpcode

/-- The instruction the decoder reads from a word whose bits are numbered as spec/opcode_table.json numbers them:
bit 0 is the least significant bit of the one command word, and every bit from nbits up is 0. -/
def decodeTableWord (nbits w : Nat) : Option Instr :=
  match decode (BitVec.ofNat 32 (w % 2 ^ nbits)) with
  | .ok i => some i
  | .error _ => none

/-- The command word of an instruction (30_encoding.md R91, R93): opcode, then the format's fields, reserved bits 0. -/
def encode : Instr → Word
  | .nop => (0x00#8 ++ 0#24 : BitVec 32)
  | .setVersion ver => (0x01#8 ++ 0#18 ++ ver : BitVec 32)
  | .setSide side => (0x02#8 ++ 0#16 ++ side : BitVec 32)
  | .setFormat fv => (0x03#8 ++ 0#19 ++ fv : BitVec 32)
  | .fmtEncode fv => (0x10#8 ++ 0#19 ++ fv : BitVec 32)
  | .fmtCheck sel => (0x11#8 ++ 0#23 ++ sampleBit sel : BitVec 32)
  | .fmtGather => (0x12#8 ++ 0#24 : BitVec 32)
  | .fmtDecode1 => (0x13#8 ++ 0#24 : BitVec 32)
  | .fmtDecode2 => (0x14#8 ++ 0#24 : BitVec 32)
  | .maskEval mid row col => (0x20#8 ++ mid ++ 0#5 ++ row ++ col : BitVec 32)
  | .dzQuery x y => (0x21#8 ++ 0#8 ++ y ++ x : BitVec 32)
  | .zzTraverse => (0x22#8 ++ 0#24 : BitVec 32)
  | .rawRead n => (0x30#8 ++ 0#18 ++ n : BitVec 32)
  | .rawRewind => (0x31#8 ++ 0#24 : BitVec 32)
  | .rawClear => (0x32#8 ++ 0#24 : BitVec 32)
  | .rawAppend n => (0x33#8 ++ 0#18 ++ n : BitVec 32)
  | .rsCorrect => (0x40#8 ++ 0#24 : BitVec 32)
  | .msgRead n => (0x50#8 ++ 0#18 ++ n : BitVec 32)
  | .msgRewind => (0x51#8 ++ 0#24 : BitVec 32)
  | .segMode => (0x60#8 ++ 0#24 : BitVec 32)
  | .segCount => (0x61#8 ++ 0#24 : BitVec 32)
  | .segPayload => (0x62#8 ++ 0#24 : BitVec 32)
  | .segDecode => (0x63#8 ++ 0#24 : BitVec 32)
  | .decodeAll => (0x70#8 ++ 0#24 : BitVec 32)

/-- The mnemonic of a command (30_encoding.md R93). -/
def mnemonicOf : Instr → String
  | .nop => "NOP"
  | .setVersion _ => "SET_VERSION"
  | .setSide _ => "SET_SIDE"
  | .setFormat _ => "SET_FORMAT"
  | .fmtEncode _ => "FMT_ENCODE"
  | .fmtCheck _ => "FMT_CHECK"
  | .fmtGather => "FMT_GATHER"
  | .fmtDecode1 => "FMT_DECODE1"
  | .fmtDecode2 => "FMT_DECODE2"
  | .maskEval _ _ _ => "MASK_EVAL"
  | .dzQuery _ _ => "DZ_QUERY"
  | .zzTraverse => "ZZ_TRAVERSE"
  | .rawRead _ => "RAW_READ"
  | .rawRewind => "RAW_REWIND"
  | .rawClear => "RAW_CLEAR"
  | .rawAppend _ => "RAW_APPEND"
  | .rsCorrect => "RS_CORRECT"
  | .msgRead _ => "MSG_READ"
  | .msgRewind => "MSG_REWIND"
  | .segMode => "SEG_MODE"
  | .segCount => "SEG_COUNT"
  | .segPayload => "SEG_PAYLOAD"
  | .segDecode => "SEG_DECODE"
  | .decodeAll => "DECODE_ALL"

/-- One row of the opcode map: the word with all operand fields 0, and the bits that must match it
(30_encoding.md R93). -/
structure OpcodeRow where
  mnemonic : String
  /-- `match` of R93. -/
  pattern : Word
  mask : Word
  /-- The format is W, so N is at most 32 (30_encoding.md R94 c). -/
  counted : Bool
  deriving DecidableEq, Repr

/-- The complete opcode map (30_encoding.md R93). -/
def opcodeRows : List OpcodeRow :=
  [⟨"NOP", 0x00000000#32, 0xFFFFFFFF#32, false⟩,
   ⟨"SET_VERSION", 0x01000000#32, 0xFFFFFFC0#32, false⟩,
   ⟨"SET_SIDE", 0x02000000#32, 0xFFFFFF00#32, false⟩,
   ⟨"SET_FORMAT", 0x03000000#32, 0xFFFFFFE0#32, false⟩,
   ⟨"FMT_ENCODE", 0x10000000#32, 0xFFFFFFE0#32, false⟩,
   ⟨"FMT_CHECK", 0x11000000#32, 0xFFFFFFFE#32, false⟩,
   ⟨"FMT_GATHER", 0x12000000#32, 0xFFFFFFFF#32, false⟩,
   ⟨"FMT_DECODE1", 0x13000000#32, 0xFFFFFFFF#32, false⟩,
   ⟨"FMT_DECODE2", 0x14000000#32, 0xFFFFFFFF#32, false⟩,
   ⟨"MASK_EVAL", 0x20000000#32, 0xFF1F0000#32, false⟩,
   ⟨"DZ_QUERY", 0x21000000#32, 0xFFFF0000#32, false⟩,
   ⟨"ZZ_TRAVERSE", 0x22000000#32, 0xFFFFFFFF#32, false⟩]
  ++
  [⟨"RAW_READ", 0x30000000#32, 0xFFFFFFC0#32, true⟩,
   ⟨"RAW_REWIND", 0x31000000#32, 0xFFFFFFFF#32, false⟩,
   ⟨"RAW_CLEAR", 0x32000000#32, 0xFFFFFFFF#32, false⟩,
   ⟨"RAW_APPEND", 0x33000000#32, 0xFFFFFFC0#32, true⟩,
   ⟨"RS_CORRECT", 0x40000000#32, 0xFFFFFFFF#32, false⟩,
   ⟨"MSG_READ", 0x50000000#32, 0xFFFFFFC0#32, true⟩,
   ⟨"MSG_REWIND", 0x51000000#32, 0xFFFFFFFF#32, false⟩,
   ⟨"SEG_MODE", 0x60000000#32, 0xFFFFFFFF#32, false⟩,
   ⟨"SEG_COUNT", 0x61000000#32, 0xFFFFFFFF#32, false⟩,
   ⟨"SEG_PAYLOAD", 0x62000000#32, 0xFFFFFFFF#32, false⟩,
   ⟨"SEG_DECODE", 0x63000000#32, 0xFFFFFFFF#32, false⟩,
   ⟨"DECODE_ALL", 0x70000000#32, 0xFFFFFFFF#32, false⟩]

end Sys2Proof
end

