-- ==== Sys2Proof/Machine/State.lean ====
section
/-! DEFINITION. The state of QRDEC-RS as plain data: every register and buffer of 10_state.md, the block's inputs (the
host, the platform, the module source) as data the step reads, and the counter the free values are drawn at. -/

namespace Sys2Proof.Machine

/-- STATUS.SSTATE, the segment state machine (10_state.md R25). The encoding 3 is never held. -/
inductive SegState where
  | idle
  | modeRead
  | countRead
  deriving DecidableEq, Repr

/-- The error codes of 60_exceptions.md R230. Codes 0x0D-0xFF are never produced. -/
inductive ErrorCode where
  /-- 0x00 NONE, the value while ERR = 0. -/
  | none
  /-- 0x01 ILLEGAL_COMMAND. -/
  | illegalCommand
  /-- 0x02 SEQUENCE. -/
  | sequence
  /-- 0x03 ILLEGAL_VERSION. -/
  | illegalVersion
  /-- 0x04 FORMAT_CORRUPT. -/
  | formatCorrupt
  /-- 0x05 DATA_CORRUPT_RS. -/
  | dataCorruptRs
  /-- 0x06 DATA_CORRUPT_PAD. -/
  | dataCorruptPad
  /-- 0x07 LENGTH_MISMATCH. -/
  | lengthMismatch
  /-- 0x08 END_OF_DATA. -/
  | endOfData
  /-- 0x09 ILLEGAL_MODE. -/
  | illegalMode
  /-- 0x0A UNSUPPORTED. -/
  | unsupported
  /-- 0x0B ILLEGAL_VALUE. -/
  | illegalValue
  /-- 0x0C BUFFER_FULL. -/
  | bufferFull
  deriving DecidableEq, Repr

/-- The width of a host bus access. The bus accepts 32-bit accesses only (20_memory.md R61). -/
inductive Width where
  | byte
  | half
  | word
  deriving DecidableEq, Repr

/-- One access of the host at an offset of the block's 32 KiB bus space (20_memory.md R60). -/
inductive Access where
  | read (width : Width) (offset : BitVec 15)
  | write (width : Width) (offset : BitVec 15) (data : Word)
  deriving DecidableEq, Repr

/-- The bus response to a host access (20_memory.md R61-R63). -/
inductive BusReply where
  /-- No access since reset. -/
  | none
  /-- A completed read and the word it returned. -/
  | data (value : Word)
  /-- A completed write. -/
  | written
  /-- A bus error on a read, with the unspecified word it returned (R61, R62). -/
  | readError (value : Word)
  /-- A bus error on a write (R61, R62). -/
  | writeError
  deriving DecidableEq, Repr

/-- What the module source answers: rows from the top, each a list of bits from the left, 1 = dark (20_memory.md R70,
R71). -/
abbrev Grid := List (List Bool)

/-- One input from outside the block. -/
inductive Event where
  /-- A host bus access (20_memory.md R60). -/
  | access (a : Access)
  /-- The host's WAIT: read STATUS, again and again, until BUSY = 0 (30_encoding.md R98). -/
  | wait
  /-- The hardware reset signal (70_reset_and_hazards.md R260). -/
  | hardReset
  /-- The host changes what the module source answers (20_memory.md R73). -/
  | setModules (grid : Grid)
  deriving DecidableEq, Repr

/-- A buffer: the listed entries (index, value), indices strictly rising, no value equal to what an unlisted entry
reads as. `Sys2Proof.Machine.bufWf` says so and `Sys2Proof.Machine.unlisted` is that value. -/
abbrev Buf (α : Type) := List (Nat × α)

/-- The machine. First the spec's state (10_state.md R22-R47), then the model's own fields: the block's inputs and the
bookkeeping of free values. -/
structure State where
  /-- STATUS.BUSY (R25). -/
  busy : Bool
  /-- STATUS.ERR (R25). -/
  err : Bool
  /-- STATUS.OVERRUN (R25). -/
  overrun : Bool
  /-- STATUS.V_VALID (R25). -/
  vValid : Bool
  /-- STATUS.F_VALID (R25). -/
  fValid : Bool
  /-- STATUS.R_VALID (R25). -/
  rValid : Bool
  /-- STATUS.M_VALID (R25). -/
  mValid : Bool
  /-- STATUS.SSTATE (R25). -/
  sstate : SegState
  /-- STATUS.ERRCODE (R25, 60_exceptions.md R230). -/
  errCode : ErrorCode
  /-- ERRINFO (R27). -/
  errInfo : Word
  /-- CONFIG.VERSION (R28). -/
  version : BitVec 6
  /-- CONFIG.ECL (R28). -/
  ecl : BitVec 2
  /-- CONFIG.MASK_ID (R28). -/
  maskId : BitVec 3
  /-- CONFIG.SIDE (R28). -/
  side : BitVec 8
  /-- WDATA (R29). -/
  wdata : Word
  /-- RDATA (R30). -/
  rdata : Word
  /-- FMT_S1[14:0] (R31). -/
  fmtS1 : BitVec 15
  /-- FMT_S2[14:0] (R32). -/
  fmtS2 : BitVec 15
  /-- FMT_RESULT (R33). -/
  fmtResult : Word
  /-- RAW_LEN (R34). -/
  rawLen : BitVec 15
  /-- RAW_POS (R35). -/
  rawPos : BitVec 15
  /-- MSG_LEN (R36). -/
  msgLen : BitVec 12
  /-- MSG_POS (R37). -/
  msgPos : BitVec 15
  /-- RS_NCORR (R38). -/
  rsNcorr : BitVec 16
  /-- SEG_MODE (R39). -/
  segMode : BitVec 4
  /-- SEG_COUNT (R40). -/
  segCount : BitVec 16
  /-- OUT_LEN (R41). -/
  outLen : BitVec 14
  /-- RAWBUF (R44). -/
  rawBuf : Buf Bool
  /-- MSGBUF (R45). -/
  msgBuf : List Host.Cell
  /-- OUTBUF (R46). -/
  outBuf : Buf (BitVec 16)
  /-- CMDL, the command latch (R47); log entry 2. -/
  cmdl : Word
  /-- The model's own: the inputs still to come, oldest first (log entry 4). -/
  events : List Event
  /-- The model's own: for each command still to be accepted, how many inputs land before it completes (log entry 3). -/
  latencies : List Nat
  /-- The model's own: how many more inputs land before the command in flight completes (log entry 3). -/
  lag : Nat
  /-- The model's own: what the module source answers now (log entry 7). -/
  modules : Grid
  /-- The model's own: the module source was changed while the present command was BUSY (log entry 6). -/
  drift : Bool
  /-- The model's own: the number of the next free draw (log entry 5). -/
  draws : Nat
  /-- The model's own: the bus response to the host's last access (log entry 8). -/
  reply : BusReply
  deriving DecidableEq, Repr

/-- The block never halts or stops by itself (70_reset_and_hazards.md R269): every failing command is an error record in
the next state (60_exceptions.md R233), and a failing bus access is a bus response (R239). So no fault exists: nobody
raises one. Safe: nothing is claimed of a machine that stopped. -/
inductive Fault where
  deriving DecidableEq, Repr

/-- Why a step has no meaning in this model. -/
inductive Refusal where
  /-- Raised by exec's arm of an instruction without a meaning; no arm does so. Safe: no claim holds of it. -/
  | notModelled (mnemonic : String)
  deriving DecidableEq, Repr

/-- The machine right after reset (70_reset_and_hazards.md R261): every register 0, the segment state IDLE, nothing
listed in the buffers (R262, log entry 1), the command latch 0 (log entry 2), and no input placed (log entry 4). -/
def State.reset : State where
  busy := false
  err := false
  overrun := false
  vValid := false
  fValid := false
  rValid := false
  mValid := false
  sstate := .idle
  errCode := .none
  errInfo := 0#32
  version := 0#6
  ecl := 0#2
  maskId := 0#3
  side := 0#8
  wdata := 0#32
  rdata := 0#32
  fmtS1 := 0#15
  fmtS2 := 0#15
  fmtResult := 0#32
  rawLen := 0#15
  rawPos := 0#15
  msgLen := 0#12
  msgPos := 0#15
  rsNcorr := 0#16
  segMode := 0#4
  segCount := 0#16
  outLen := 0#14
  rawBuf := []
  msgBuf := []
  outBuf := []
  cmdl := 0#32
  events := []
  latencies := []
  lag := 0
  modules := []
  drift := false
  draws := 0
  reply := .none

end Sys2Proof.Machine
end

