-- ==== Sys2Proof/Machine/Flags.lean ====
section
/-! DEFINITION. The status bits: the codes of STATUS, PSTATE, and the words of STATUS and CONFIG (10_state.md R25, R26,
R28; 60_exceptions.md R230). The block has no other flags (10_state.md R48). -/

namespace Sys2Proof.Machine

/-- The code of an error (60_exceptions.md R230). -/
def errorByte : ErrorCode → BitVec 8
  | .none => 0x00#8
  | .illegalCommand => 0x01#8
  | .sequence => 0x02#8
  | .illegalVersion => 0x03#8
  | .formatCorrupt => 0x04#8
  | .dataCorruptRs => 0x05#8
  | .dataCorruptPad => 0x06#8
  | .lengthMismatch => 0x07#8
  | .endOfData => 0x08#8
  | .illegalMode => 0x09#8
  | .unsupported => 0x0A#8
  | .illegalValue => 0x0B#8
  | .bufferFull => 0x0C#8

/-- The encoding of SSTATE (10_state.md R25). -/
def segStateBits : SegState → BitVec 2
  | .idle => 0#2
  | .modeRead => 1#2
  | .countRead => 2#2

/-- PSTATE, a function of the valid bits (10_state.md R26). -/
def pstate (s : State) : BitVec 3 :=
  if s.rValid then 4#3 else if s.fValid then 2#3 else if s.vValid then 1#3 else 0#3

/-- The STATUS word (10_state.md R25). -/
def statusWord (s : State) : Word :=
  (0#8 ++ errorByte s.errCode ++ 0#2 ++ segStateBits s.sstate ++ 0#1 ++ pstate s ++ 0#1
    ++ BitVec.ofBool s.mValid ++ BitVec.ofBool s.rValid ++ BitVec.ofBool s.fValid ++ BitVec.ofBool s.vValid
    ++ BitVec.ofBool s.overrun ++ BitVec.ofBool s.err ++ BitVec.ofBool s.busy : BitVec 32)

/-- The CONFIG word (10_state.md R28). -/
def configWord (s : State) : Word :=
  (0#8 ++ s.side ++ 0#1 ++ s.maskId ++ 0#2 ++ s.ecl ++ 0#2 ++ s.version : BitVec 32)

/-- STATUS as a read returns it while BUSY = 1: BUSY is 1, OVERRUN is current, every other bit is that of a free word
(20_memory.md R80, 70_reset_and_hazards.md R267; log entry 5). -/
def statusWhileBusy (free : Word) (overrun : Bool) : Word :=
  (free.extractLsb' 3 29 ++ BitVec.ofBool overrun ++ free.extractLsb' 1 1 ++ 1#1 : BitVec 32)

end Sys2Proof.Machine
end

