-- ==== Sys2Proof/Machine/Buffer.lean ====
section
/-! DEFINITION. The buffers RAWBUF, MSGBUF and OUTBUF (10_state.md R44-R46): one read, one store, their canonical form,
and the bit orders of 20_memory.md R68. -/

namespace Sys2Proof.Machine

/-- What an unlisted buffer entry reads as: 0. The spec leaves it unspecified and unobservable, and lets a model give
it any value (70_reset_and_hazards.md R262; log entry 1). -/
def unlisted {α : Type} [Inhabited α] : α := default

/-- Entry k of a buffer. -/
def bufRead {α : Type} [Inhabited α] : Buf α → Nat → α
  | [], _ => unlisted
  | (i, x) :: rest, k => if i = k then x else bufRead rest k

/-- The listed form of the values xs at indices start, start + 1, and so on. -/
def bufEntries {α : Type} [Inhabited α] [DecidableEq α] : Nat → List α → Buf α
  | _, [] => []
  | start, x :: xs =>
    if x = unlisted then bufEntries (start + 1) xs else (start, x) :: bufEntries (start + 1) xs

/-- The buffer with the values xs stored at indices start, start + 1, and so on, every other entry as before. -/
def bufStore {α : Type} [Inhabited α] [DecidableEq α] (b : Buf α) (start : Nat) (xs : List α) : Buf α :=
  b.filter (fun e => e.1 < start) ++ bufEntries start xs ++ b.filter (fun e => start + xs.length ≤ e.1)

/-- The n entries from index start on. -/
def bufSlice {α : Type} [Inhabited α] (b : Buf α) (start n : Nat) : List α :=
  (List.range n).map fun k => bufRead b (start + k)

/-- The canonical form from an index on: indices rising from there, no value equal to an unlisted entry's. -/
def bufWfFrom {α : Type} [Inhabited α] [DecidableEq α] : Nat → Buf α → Bool
  | _, [] => true
  | low, (i, x) :: rest => decide (low ≤ i) && decide (x ≠ unlisted) && bufWfFrom (i + 1) rest

/-- The canonical form of a buffer: equal contents are equal lists. -/
def bufWf {α : Type} [Inhabited α] [DecidableEq α] (b : Buf α) : Bool := bufWfFrom 0 b

/-- All three buffers have the canonical form. -/
def Memory.wf (s : State) : Bool := bufWf s.rawBuf && bufWf s.msgBuf && bufWf s.outBuf

/-- int_msb: the natural number of a bit list read most significant bit first (00_scope.md R11). -/
def bitsNat (bits : List Bool) : Nat := bits.foldl (fun v b => 2 * v + b.toNat) 0

/-- The n raw-stream bits from bit position pos on (41_zigzag_reader.md R146). -/
def rawBits (s : State) (pos n : Nat) : List Bool := bufSlice s.rawBuf pos n

/-- Message bit i: the most significant bit of each byte first (43_segment_decoder.md R190). -/
def messageBit (s : State) (i : Nat) : Bool := (bufRead s.msgBuf (i / 8)).getLsbD (7 - i % 8)

/-- The n message bits from bit position pos on, as a number, first bit most significant (43_segment_decoder.md R190). -/
def messageBits (s : State) (pos n : Nat) : Nat :=
  bitsNat ((List.range n).map fun k => messageBit s (pos + k))

end Sys2Proof.Machine
end

