-- ==== Sys2Proof/Machine/Ops.lean ====
section
/-! DEFINITION. The operations commands share: how a command ends, raising an error and clearing it, the clearing
cascade, the configuration effects, the module port, accepting a command, reset. -/

namespace Sys2Proof.Machine

/-- What a command raises: the error code and ERRINFO (60_exceptions.md R230, R231). -/
structure CmdError where
  code : ErrorCode
  info : Word
  deriving DecidableEq, Repr

/-- How a command's body ends: done in a state, or failed with an error in the state its own rule rolls back to
(60_exceptions.md R234). -/
inductive Result where
  | done (s : State)
  | failed (e : CmdError) (kept : State)
  deriving DecidableEq, Repr

/-- TAKING AN ERROR (60_exceptions.md R233), on the state already rolled back: ERR, ERRCODE, ERRINFO are recorded and
BUSY falls. The block has no vector, handler or saved state. -/
def raiseError (e : CmdError) (s : State) : State :=
  { s with err := true, errCode := e.code, errInfo := e.info, busy := false }

/-- LEAVING THE ERROR STATE by CTRL.CLRERR (44_control.md R223). -/
def clearError (s : State) : State :=
  { s with err := false, errCode := .none, errInfo := 0#32, overrun := false }

/-- The end of a command without an error: BUSY falls (60_exceptions.md R232). -/
def complete (s : State) : State := { s with busy := false }

/-- The end of a command (60_exceptions.md R232, R233). -/
def finish : Result → Host.Outcome State Fault Refusal
  | .done s => .next (complete s)
  | .failed e s => .next (raiseError e s)

/-- Run the next body on what the first one left; the first failure ends the whole (44_control.md R221). -/
def Result.andThen (r : Result) (next : State → Result) : Result :=
  match r with
  | .done s => next s
  | .failed e s => .failed e s

/-- The error of an illegal command word or of an operand outside its range: ERRINFO is the word
(30_encoding.md R94, 60_exceptions.md R231). -/
def illegalCommand (s : State) : CmdError := ⟨.illegalCommand, s.cmdl⟩

/-- A precondition on the valid bits or SSTATE, else SEQUENCE with ERRINFO = the word (30_encoding.md R96). -/
def require (ready : Bool) (s : State) (body : Result) : Result :=
  if ready then body else .failed ⟨.sequence, s.cmdl⟩ s

/-- A bit stream a positional read can run past the end of (60_exceptions.md R231). -/
inductive Stream where
  | raw
  | message
  deriving DecidableEq, Repr

/-- END_OF_DATA: ERRINFO[31] names the stream, [7:0] the bits requested (60_exceptions.md R231). -/
def endOfData (stream : Stream) (n : Nat) : CmdError :=
  ⟨.endOfData, (BitVec.ofBool (stream == .message) ++ 0#23 ++ BitVec.ofNat 8 n : BitVec 32)⟩

/-- clear_seg (10_state.md R49). -/
def clearSeg (s : State) : State :=
  { s with sstate := .idle, segMode := 0#4, segCount := 0#16, outLen := 0#14 }

/-- clear_msg (10_state.md R49). -/
def clearMsg (s : State) : State :=
  clearSeg { s with mValid := false, msgLen := 0#12, msgPos := 0#15, rsNcorr := 0#16 }

/-- clear_raw (10_state.md R49). -/
def clearRaw (s : State) : State :=
  clearMsg { s with rValid := false, rawLen := 0#15, rawPos := 0#15 }

/-- clear_fmt (10_state.md R49). -/
def clearFmt (s : State) : State :=
  clearRaw { s with fValid := false, ecl := 0#2, maskId := 0#3 }

/-- apply_format(d) (40_format_codec.md R118): d[4:3] is the level indicator, d[2:0] the mask id. -/
def applyFormat (d : BitVec 5) (s : State) : State :=
  { clearRaw s with ecl := d.extractLsb' 3 2, maskId := d.extractLsb' 0 3, fValid := true }

/-- SIDE(v) = 17 + 4·v modules (00_scope.md R9). -/
def sideOf (v : Nat) : Nat := 17 + 4 * v

/-- SET_VERSION from its second line (41_zigzag_reader.md R130). -/
def configureVersion (v : Nat) (s : State) : State :=
  clearFmt { s with version := BitVec.ofNat 6 v, side := BitVec.ofNat 8 (sideOf v), vValid := true }

/-- What the module source answers at column x, row y; past the rows supplied it is white (20_memory.md R70, R71; log
entry 7). -/
def gridBit (g : Grid) (x y : Nat) : Bool := (g.getD y []).getD x false

/-- One read of the module port (20_memory.md R70): the module source's bit, or a free value where the host changed the
source during this command (R73, 93_implementation_defined.md U4). -/
def moduleRead (s : State) (x y : Nat) : Bool :=
  if s.drift then Config.freeModule s.draws x y else gridBit s.modules x y

/-- The word is latched into CMDL and BUSY rises (10_state.md R24, R47); the module source counts as unchanged from
here on, and the command gets a draw number of its own. -/
def latchCommand (w : Word) (s : State) : State :=
  { s with cmdl := w, busy := true, drift := false, draws := s.draws + 1 }

/-- A CMD write (60_exceptions.md R232): dropped with OVERRUN while BUSY or ERR, else accepted. The accepted command
takes its latency from the platform's list (70_reset_and_hazards.md R268; log entry 3). -/
def submitCommand (w : Word) (s : State) : State :=
  if s.busy then { s with overrun := true }
  else if s.err then { s with overrun := true }
  else { latchCommand w s with lag := s.latencies.headD 0, latencies := s.latencies.tail }

/-- Reset, soft or hardware (44_control.md R222, 70_reset_and_hazards.md R260, R261): every piece of the block's state
takes its reset value and a command in flight is abandoned. What stands outside the block stays: the inputs to come, the
latencies, the module source, the bus response, the draw counter. -/
def resetBlock (s : State) : State :=
  { State.reset with
    events := s.events, latencies := s.latencies, modules := s.modules, draws := s.draws, reply := s.reply }

end Sys2Proof.Machine
end

