-- ==== Sys2Proof/Machine/Operands.lean ====
section
/-! DEFINITION. Operand assembly (30_encoding.md R92): every field is an unsigned number, zero-extended from its field;
the other operands are the registers WDATA, FMT_S1 and FMT_S2. -/

namespace Sys2Proof.Machine

/-- zext_32 (00_scope.md R11). -/
def zext32 {k : Nat} (v : BitVec k) : Word := v.setWidth 32

/-- A number the block knows to fit, as a 32-bit word. -/
def natWord (n : Nat) : Word := BitVec.ofNat 32 n

/-- The sample register a SEL operand names (30_encoding.md R91). -/
def sampleValue (sel : Sample) (s : State) : BitVec 15 :=
  match sel with
  | .s1 => s.fmtS1
  | .s2 => s.fmtS2

/-- The bit count of a W-format command must be at most READ_MAX, else ILLEGAL_COMMAND, before the precondition
(30_encoding.md R94 c, R96). The decoder refuses such a word already; the meaning refuses such an operand too. -/
def checkCount (n : BitVec 6) (s : State) (body : Result) : Result :=
  if countLegal n then body else .failed (illegalCommand s) s

/-- The bits RAW_APPEND takes from WDATA: WDATA[N-1] first, positions N and above ignored (41_zigzag_reader.md R145). -/
def wdataBits (s : State) (n : Nat) : List Bool :=
  (List.range n).map fun k => s.wdata.getLsbD (n - 1 - k)

end Sys2Proof.Machine
end

