-- ==== Sys2Proof/Machine/Galois.lean ====
section
/-! DEFINITION. GF(256) over x^8 + x^4 + x^3 + x^2 + 1 with α = 2, and polynomials over it (00_scope.md R13,
42_rs_deinterleaver.md R173). Addition is bitwise XOR. -/

namespace Sys2Proof.Machine

/-- Multiplication by α = x: shift left, reduce by 0x11D (42_rs_deinterleaver.md R173). -/
def mulAlpha (a : Byte) : Byte := if a.msb then (a <<< 1) ^^^ 0x1D#8 else a <<< 1

/-- α^k (42_rs_deinterleaver.md R173). -/
def alphaPow : Nat → Byte
  | 0 => 1#8
  | k + 1 => mulAlpha (alphaPow k)

/-- The product of a with the bits n-1..0 of b, by Horner's rule from the highest bit. -/
def gmulBits (a b : Byte) : Nat → Byte → Byte
  | 0, acc => acc
  | n + 1, acc => gmulBits a b n (mulAlpha acc ^^^ (if b.getLsbD n then a else 0#8))

/-- gmul: multiplication in GF(256) (00_scope.md R13). -/
def gmul (a b : Byte) : Byte := gmulBits a b 8 0#8

/-- a^(2^(n+1) - 2): the product of the squarings a^2, a^4, …, a^(2^n). -/
def squaringProduct : Nat → Byte → Byte → Byte
  | 0, _, acc => acc
  | n + 1, power, acc => squaringProduct n (gmul power power) (gmul acc (gmul power power))

/-- The inverse a^254 of a nonzero a; 0 for a = 0. -/
def ginv (a : Byte) : Byte := squaringProduct 7 a 1#8

/-- gdiv: division in GF(256) by a nonzero b (00_scope.md R13). -/
def gdiv (a b : Byte) : Byte := gmul a (ginv b)

/-- The value at x of the polynomial whose highest-degree coefficient comes first (00_scope.md R13). -/
def evalHighFirst (c : List Byte) (x : Byte) : Byte := c.foldl (fun acc a => gmul acc x ^^^ a) 0#8

/-- The value at x of the polynomial whose constant coefficient comes first. -/
def evalLowFirst (c : List Byte) (x : Byte) : Byte := c.foldr (fun a acc => a ^^^ gmul acc x) 0#8

/-- The sum of two polynomials, constant coefficients first. -/
def polyAdd : List Byte → List Byte → List Byte
  | [], q => q
  | p, [] => p
  | a :: p, b :: q => (a ^^^ b) :: polyAdd p q

/-- A polynomial times a constant. -/
def polyScale (k : Byte) (p : List Byte) : List Byte := p.map (gmul k)

/-- A polynomial times x^m, constant coefficient first. -/
def polyShift (m : Nat) (p : List Byte) : List Byte := List.replicate m 0#8 ++ p

/-- The coefficients 0..n-1 of a product, constant coefficients first. -/
def polyMulTrunc (n : Nat) : List Byte → List Byte → List Byte
  | [], _ => []
  | a :: p, q => (polyAdd (polyScale a q) (0#8 :: polyMulTrunc n p q)).take n

/-- The formal derivative, constant coefficient first: over characteristic 2 the odd terms stay. -/
def polyDerivative (p : List Byte) : List Byte :=
  (List.range (p.length - 1)).map fun i => if i % 2 = 0 then p.getD (i + 1) 0#8 else 0#8

end Sys2Proof.Machine
end

