-- ==== Sys2Proof/Machine/ReedSolomon.lean ====
section
/-! DEFINITION. The Reed-Solomon code of 42_rs_deinterleaver.md R173 and the block decoder rs_decode of R174. The
candidate codeword comes from the reference algorithm of 95_test_vectors.md section 4.2 (syndromes, Berlekamp-Massey,
Chien search, Forney); it is returned only when it meets R174's own condition (log entry 11). -/

namespace Sys2Proof.Machine

/-- The block is a codeword: c(α^i) = 0 for every i in 0..E-1 (42_rs_deinterleaver.md R173). -/
def isCodeword (ec : Nat) (c : List Byte) : Bool :=
  (List.range ec).all fun i => evalHighFirst c (alphaPow i) == 0#8

/-- d_H: the number of byte positions that differ (42_rs_deinterleaver.md R174). -/
def hammingDistance : List Byte → List Byte → Nat
  | a :: r, b :: c => (if a = b then 0 else 1) + hammingDistance r c
  | _, _ => 0

/-- The syndromes S[i] = r(α^i), i in 0..E-1. -/
def syndromes (ec : Nat) (r : List Byte) : List Byte :=
  (List.range ec).map fun i => evalHighFirst r (alphaPow i)

/-- The variables of Berlekamp-Massey: Λ, B (constant coefficient first), L, m, b. -/
structure Berlekamp where
  locator : List Byte
  previous : List Byte
  length : Nat
  gap : Nat
  discrepancy : Byte
  deriving DecidableEq, Repr

/-- The discrepancy d = S[k] + Σ_(i=1..L) Λi·S[k-i]. -/
def discrepancyAt (synd : List Byte) (v : Berlekamp) (k : Nat) : Byte :=
  (List.range (v.length + 1)).foldl
    (fun acc i => acc ^^^ gmul (v.locator.getD i 0#8) (if i ≤ k then synd.getD (k - i) 0#8 else 0#8)) 0#8

/-- Λ − (d/b)·x^m·B. -/
def corrected (v : Berlekamp) (d : Byte) : List Byte :=
  polyAdd v.locator (polyScale (gdiv d v.discrepancy) (polyShift v.gap v.previous))

/-- One round of Berlekamp-Massey. -/
def berlekampRound (synd : List Byte) (v : Berlekamp) (k : Nat) : Berlekamp :=
  match discrepancyAt synd v k with
  | d =>
    if d = 0#8 then { v with gap := v.gap + 1 }
    else if 2 * v.length ≤ k then ⟨corrected v d, v.locator, k + 1 - v.length, 1, d⟩
    else { v with locator := corrected v d, gap := v.gap + 1 }

/-- The error locator Λ of a syndrome list. -/
def errorLocator (ec : Nat) (synd : List Byte) : List Byte :=
  ((List.range ec).foldl (berlekampRound synd) ⟨[1#8], [1#8], 0, 1, 1#8⟩).locator

/-- The locator X_p = α^(n-1-p) of byte position p in a block of n bytes. -/
def positionLocator (n p : Nat) : Byte := alphaPow (n - 1 - p)

/-- Byte p after Chien search and Forney: where Λ(X_p^(-1)) = 0 the error X_p·Ω(X_p^(-1)) / Λ'(X_p^(-1)) is added. -/
def correctByte (locator evaluator : List Byte) (x byte : Byte) : Byte :=
  if evalLowFirst locator (ginv x) = 0#8 then
    byte ^^^ gmul x (gdiv (evalLowFirst evaluator (ginv x)) (evalLowFirst (polyDerivative locator) (ginv x)))
  else byte

/-- The bytes from position p on, corrected. -/
def correctFrom (locator evaluator : List Byte) (n : Nat) : Nat → List Byte → List Byte
  | _, [] => []
  | p, byte :: rest =>
    correctByte locator evaluator (positionLocator n p) byte :: correctFrom locator evaluator n (p + 1) rest

/-- The word the reference algorithm corrects a received block to. -/
def correctionOf (ec : Nat) (r : List Byte) : List Byte :=
  match syndromes ec r with
  | synd =>
    match errorLocator ec synd with
    | locator => correctFrom locator (polyMulTrunc ec synd locator) r.length 0 r

/-- rs_decode(r, E): the codeword within t = floor(E/2) bytes of r and its distance, or none
(42_rs_deinterleaver.md R174). -/
def rsDecode (ec : Nat) (r : List Byte) : Option (List Byte × Nat) :=
  if isCodeword ec r then some (r, 0)
  else
    match correctionOf ec r with
    | c => if isCodeword ec c && decide (hammingDistance r c ≤ ec / 2) then some (c, hammingDistance r c) else none

end Sys2Proof.Machine
end

