-- ==== Sys2Proof/Machine/Tables.lean ====
section
/-! DEFINITION. The constant tables of 00_scope.md R9, each as one named table: alignment centres, block layouts,
remainder bits, character-count widths, format-info positions, the alphanumeric alphabet. -/

namespace Sys2Proof.Machine

/-- ALIGN_POS(1..40): the alignment-pattern centre coordinates, first entry version 1 (41_zigzag_reader.md R139). -/
def alignTable : List (List Nat) :=
  [[],
   [6, 18],
   [6, 22],
   [6, 26],
   [6, 30],
   [6, 34],
   [6, 22, 38],
   [6, 24, 42],
   [6, 26, 46],
   [6, 28, 50]]
  ++
  [[6, 30, 54],
   [6, 32, 58],
   [6, 34, 62],
   [6, 26, 46, 66],
   [6, 26, 48, 70],
   [6, 26, 50, 74],
   [6, 30, 54, 78],
   [6, 30, 56, 82],
   [6, 30, 58, 86],
   [6, 34, 62, 90]]
  ++
  [[6, 28, 50, 72, 94],
   [6, 26, 50, 74, 98],
   [6, 30, 54, 78, 102],
   [6, 28, 54, 80, 106],
   [6, 32, 58, 84, 110],
   [6, 30, 58, 86, 114],
   [6, 34, 62, 90, 118],
   [6, 26, 50, 74, 98, 122],
   [6, 30, 54, 78, 102, 126],
   [6, 26, 52, 78, 104, 130]]
  ++
  [[6, 30, 56, 82, 108, 134],
   [6, 34, 60, 86, 112, 138],
   [6, 30, 58, 86, 114, 142],
   [6, 34, 62, 90, 118, 146],
   [6, 30, 54, 78, 102, 126, 150],
   [6, 24, 50, 76, 102, 128, 154],
   [6, 28, 54, 80, 106, 132, 158],
   [6, 32, 58, 84, 110, 136, 162],
   [6, 26, 54, 82, 110, 138, 166],
   [6, 30, 58, 86, 114, 142, 170]]

/-- ALIGN_POS(v) (41_zigzag_reader.md R139). -/
def alignPos (v : Nat) : List Nat := alignTable.getD (v - 1) []

/-- The four error-correction levels (41_zigzag_reader.md R136). -/
inductive Level where
  | L
  | M
  | Q
  | H
  deriving DecidableEq, Repr

/-- The levels in the order of R9: there are EC_LEVELS of them (00_scope.md R9). -/
def levels : List Level := [.L, .M, .Q, .H]

/-- level(ECL): the level a 2-bit indicator names (41_zigzag_reader.md R136). -/
def levelOf (ecl : BitVec 2) : Level :=
  if ecl = 0b01#2 then .L else if ecl = 0b00#2 then .M else if ecl = 0b11#2 then .Q else .H

/-- One cell of the block-layout table: E, B1, D1, B2 (42_rs_deinterleaver.md R172). -/
structure BlockLayout where
  /-- E: EC codewords in each block. -/
  ec : Nat
  /-- B1: number of short blocks. -/
  b1 : Nat
  /-- D1: data codewords in a short block; a long block has D1 + 1. -/
  d1 : Nat
  /-- B2: number of long blocks. -/
  b2 : Nat
  deriving DecidableEq, Repr

/-- One row of the block-layout table: TOTAL_CW and the cells of the four levels (42_rs_deinterleaver.md R172). -/
structure LayoutRow where
  total : Nat
  l : BlockLayout
  m : BlockLayout
  q : BlockLayout
  h : BlockLayout
  deriving DecidableEq, Repr

/-- The block-layout table, versions 1-10 (42_rs_deinterleaver.md R172). -/
def layoutRowsOne : List LayoutRow :=
  [⟨26, ⟨7, 1, 19, 0⟩, ⟨10, 1, 16, 0⟩, ⟨13, 1, 13, 0⟩, ⟨17, 1, 9, 0⟩⟩,
   ⟨44, ⟨10, 1, 34, 0⟩, ⟨16, 1, 28, 0⟩, ⟨22, 1, 22, 0⟩, ⟨28, 1, 16, 0⟩⟩,
   ⟨70, ⟨15, 1, 55, 0⟩, ⟨26, 1, 44, 0⟩, ⟨18, 2, 17, 0⟩, ⟨22, 2, 13, 0⟩⟩,
   ⟨100, ⟨20, 1, 80, 0⟩, ⟨18, 2, 32, 0⟩, ⟨26, 2, 24, 0⟩, ⟨16, 4, 9, 0⟩⟩,
   ⟨134, ⟨26, 1, 108, 0⟩, ⟨24, 2, 43, 0⟩, ⟨18, 2, 15, 2⟩, ⟨22, 2, 11, 2⟩⟩,
   ⟨172, ⟨18, 2, 68, 0⟩, ⟨16, 4, 27, 0⟩, ⟨24, 4, 19, 0⟩, ⟨28, 4, 15, 0⟩⟩,
   ⟨196, ⟨20, 2, 78, 0⟩, ⟨18, 4, 31, 0⟩, ⟨18, 2, 14, 4⟩, ⟨26, 4, 13, 1⟩⟩,
   ⟨242, ⟨24, 2, 97, 0⟩, ⟨22, 2, 38, 2⟩, ⟨22, 4, 18, 2⟩, ⟨26, 4, 14, 2⟩⟩,
   ⟨292, ⟨30, 2, 116, 0⟩, ⟨22, 3, 36, 2⟩, ⟨20, 4, 16, 4⟩, ⟨24, 4, 12, 4⟩⟩,
   ⟨346, ⟨18, 2, 68, 2⟩, ⟨26, 4, 43, 1⟩, ⟨24, 6, 19, 2⟩, ⟨28, 6, 15, 2⟩⟩]

/-- The block-layout table, versions 11-20 (42_rs_deinterleaver.md R172). -/
def layoutRowsTwo : List LayoutRow :=
  [⟨404, ⟨20, 4, 81, 0⟩, ⟨30, 1, 50, 4⟩, ⟨28, 4, 22, 4⟩, ⟨24, 3, 12, 8⟩⟩,
   ⟨466, ⟨24, 2, 92, 2⟩, ⟨22, 6, 36, 2⟩, ⟨26, 4, 20, 6⟩, ⟨28, 7, 14, 4⟩⟩,
   ⟨532, ⟨26, 4, 107, 0⟩, ⟨22, 8, 37, 1⟩, ⟨24, 8, 20, 4⟩, ⟨22, 12, 11, 4⟩⟩,
   ⟨581, ⟨30, 3, 115, 1⟩, ⟨24, 4, 40, 5⟩, ⟨20, 11, 16, 5⟩, ⟨24, 11, 12, 5⟩⟩,
   ⟨655, ⟨22, 5, 87, 1⟩, ⟨24, 5, 41, 5⟩, ⟨30, 5, 24, 7⟩, ⟨24, 11, 12, 7⟩⟩,
   ⟨733, ⟨24, 5, 98, 1⟩, ⟨28, 7, 45, 3⟩, ⟨24, 15, 19, 2⟩, ⟨30, 3, 15, 13⟩⟩,
   ⟨815, ⟨28, 1, 107, 5⟩, ⟨28, 10, 46, 1⟩, ⟨28, 1, 22, 15⟩, ⟨28, 2, 14, 17⟩⟩,
   ⟨901, ⟨30, 5, 120, 1⟩, ⟨26, 9, 43, 4⟩, ⟨28, 17, 22, 1⟩, ⟨28, 2, 14, 19⟩⟩,
   ⟨991, ⟨28, 3, 113, 4⟩, ⟨26, 3, 44, 11⟩, ⟨26, 17, 21, 4⟩, ⟨26, 9, 13, 16⟩⟩,
   ⟨1085, ⟨28, 3, 107, 5⟩, ⟨26, 3, 41, 13⟩, ⟨30, 15, 24, 5⟩, ⟨28, 15, 15, 10⟩⟩]

/-- The block-layout table, versions 21-30 (42_rs_deinterleaver.md R172). -/
def layoutRowsThree : List LayoutRow :=
  [⟨1156, ⟨28, 4, 116, 4⟩, ⟨26, 17, 42, 0⟩, ⟨28, 17, 22, 6⟩, ⟨30, 19, 16, 6⟩⟩,
   ⟨1258, ⟨28, 2, 111, 7⟩, ⟨28, 17, 46, 0⟩, ⟨30, 7, 24, 16⟩, ⟨24, 34, 13, 0⟩⟩,
   ⟨1364, ⟨30, 4, 121, 5⟩, ⟨28, 4, 47, 14⟩, ⟨30, 11, 24, 14⟩, ⟨30, 16, 15, 14⟩⟩,
   ⟨1474, ⟨30, 6, 117, 4⟩, ⟨28, 6, 45, 14⟩, ⟨30, 11, 24, 16⟩, ⟨30, 30, 16, 2⟩⟩,
   ⟨1588, ⟨26, 8, 106, 4⟩, ⟨28, 8, 47, 13⟩, ⟨30, 7, 24, 22⟩, ⟨30, 22, 15, 13⟩⟩,
   ⟨1706, ⟨28, 10, 114, 2⟩, ⟨28, 19, 46, 4⟩, ⟨28, 28, 22, 6⟩, ⟨30, 33, 16, 4⟩⟩,
   ⟨1828, ⟨30, 8, 122, 4⟩, ⟨28, 22, 45, 3⟩, ⟨30, 8, 23, 26⟩, ⟨30, 12, 15, 28⟩⟩,
   ⟨1921, ⟨30, 3, 117, 10⟩, ⟨28, 3, 45, 23⟩, ⟨30, 4, 24, 31⟩, ⟨30, 11, 15, 31⟩⟩,
   ⟨2051, ⟨30, 7, 116, 7⟩, ⟨28, 21, 45, 7⟩, ⟨30, 1, 23, 37⟩, ⟨30, 19, 15, 26⟩⟩,
   ⟨2185, ⟨30, 5, 115, 10⟩, ⟨28, 19, 47, 10⟩, ⟨30, 15, 24, 25⟩, ⟨30, 23, 15, 25⟩⟩]

/-- The block-layout table, versions 31-40 (42_rs_deinterleaver.md R172). -/
def layoutRowsFour : List LayoutRow :=
  [⟨2323, ⟨30, 13, 115, 3⟩, ⟨28, 2, 46, 29⟩, ⟨30, 42, 24, 1⟩, ⟨30, 23, 15, 28⟩⟩,
   ⟨2465, ⟨30, 17, 115, 0⟩, ⟨28, 10, 46, 23⟩, ⟨30, 10, 24, 35⟩, ⟨30, 19, 15, 35⟩⟩,
   ⟨2611, ⟨30, 17, 115, 1⟩, ⟨28, 14, 46, 21⟩, ⟨30, 29, 24, 19⟩, ⟨30, 11, 15, 46⟩⟩,
   ⟨2761, ⟨30, 13, 115, 6⟩, ⟨28, 14, 46, 23⟩, ⟨30, 44, 24, 7⟩, ⟨30, 59, 16, 1⟩⟩,
   ⟨2876, ⟨30, 12, 121, 7⟩, ⟨28, 12, 47, 26⟩, ⟨30, 39, 24, 14⟩, ⟨30, 22, 15, 41⟩⟩,
   ⟨3034, ⟨30, 6, 121, 14⟩, ⟨28, 6, 47, 34⟩, ⟨30, 46, 24, 10⟩, ⟨30, 2, 15, 64⟩⟩,
   ⟨3196, ⟨30, 17, 122, 4⟩, ⟨28, 29, 46, 14⟩, ⟨30, 49, 24, 10⟩, ⟨30, 24, 15, 46⟩⟩,
   ⟨3362, ⟨30, 4, 122, 18⟩, ⟨28, 13, 46, 32⟩, ⟨30, 48, 24, 14⟩, ⟨30, 42, 15, 32⟩⟩,
   ⟨3532, ⟨30, 20, 117, 4⟩, ⟨28, 40, 47, 7⟩, ⟨30, 43, 24, 22⟩, ⟨30, 10, 15, 67⟩⟩,
   ⟨3706, ⟨30, 19, 118, 6⟩, ⟨28, 18, 47, 31⟩, ⟨30, 34, 24, 34⟩, ⟨30, 20, 15, 61⟩⟩]

/-- The block-layout table, first row version 1 (42_rs_deinterleaver.md R172). -/
def layoutTable : List LayoutRow := layoutRowsOne ++ layoutRowsTwo ++ layoutRowsThree ++ layoutRowsFour

/-- The row of version v. For v outside 1..40 (no run configures one) all zero (log entry 10). -/
def layoutRow (v : Nat) : LayoutRow :=
  if v = 0 then ⟨0, ⟨0, 0, 0, 0⟩, ⟨0, 0, 0, 0⟩, ⟨0, 0, 0, 0⟩, ⟨0, 0, 0, 0⟩⟩
  else layoutTable.getD (v - 1) ⟨0, ⟨0, 0, 0, 0⟩, ⟨0, 0, 0, 0⟩, ⟨0, 0, 0, 0⟩, ⟨0, 0, 0, 0⟩⟩

/-- LAYOUT(v, l) (42_rs_deinterleaver.md R172). -/
def layoutOf (v : Nat) (l : Level) : BlockLayout :=
  match l with
  | .L => (layoutRow v).l
  | .M => (layoutRow v).m
  | .Q => (layoutRow v).q
  | .H => (layoutRow v).h

/-- TOTAL_CW(v) (42_rs_deinterleaver.md R170). -/
def totalCw (v : Nat) : Nat := (layoutRow v).total

/-- REM_BITS(v) (42_rs_deinterleaver.md R171). -/
def remBits (v : Nat) : Nat :=
  if v < 2 then 0 else if v < 7 then 7 else if v < 14 then 0 else if v < 21 then 3
  else if v < 28 then 4 else if v < 35 then 3 else 0

/-- CAP_BITS(v) = 8·TOTAL_CW(v) + REM_BITS(v) (42_rs_deinterleaver.md R170). -/
def capBitsOf (v : Nat) : Nat := 8 * totalCw v + remBits v

/-- B: the number of blocks (42_rs_deinterleaver.md R170). -/
def blockCount (lay : BlockLayout) : Nat := lay.b1 + lay.b2

/-- Db(b): the data codewords of block b (42_rs_deinterleaver.md R170). -/
def blockData (lay : BlockLayout) (b : Nat) : Nat := if b < lay.b1 then lay.d1 else lay.d1 + 1

/-- DATA_CW: the data codewords of all blocks (42_rs_deinterleaver.md R170). -/
def dataCw (lay : BlockLayout) : Nat := lay.b1 * lay.d1 + lay.b2 * (lay.d1 + 1)

/-- tier(v): 0 for v 1-9, 1 for v 10-26, 2 for v 27-40 (43_segment_decoder.md R194). -/
def tierOf (v : Nat) : Nat := if v < 10 then 0 else if v < 27 then 1 else 2

/-- The row of CC_WIDTH of a mode, tiers 0, 1, 2 (43_segment_decoder.md R194). No run asks for another mode. -/
def ccWidths (mode : BitVec 4) : List Nat :=
  if mode = 1#4 then [10, 12, 14]
  else if mode = 2#4 then [9, 11, 13]
  else if mode = 4#4 then [8, 16, 16]
  else if mode = 8#4 then [8, 10, 12]
  else []

/-- CC_WIDTH(mode, tier) (43_segment_decoder.md R194). -/
def ccWidth (mode : BitVec 4) (tier : Nat) : Nat := (ccWidths mode).getD tier 0

/-- The positions (x, y) of format-info sample 1, bit 14 first (40_format_codec.md R116). -/
def formatPositions1 : List (Int × Int) :=
  [(0, 8), (1, 8), (2, 8), (3, 8), (4, 8), (5, 8), (7, 8), (8, 8), (8, 7), (8, 5), (8, 4), (8, 3), (8, 2), (8, 1), (8, 0)]

/-- The positions (x, y) of format-info sample 2, bit 14 first; a negative coordinate wraps (40_format_codec.md R116). -/
def formatPositions2 : List (Int × Int) :=
  [(8, -1), (8, -2), (8, -3), (8, -4), (8, -5), (8, -6), (8, -7),
   (-8, 8), (-7, 8), (-6, 8), (-5, 8), (-4, 8), (-3, 8), (-2, 8), (-1, 8)]

/-- ALNUM, the ASCII codes of the 45 alphanumeric characters in index order (43_segment_decoder.md R199). -/
def alnumTable : List Nat :=
  [0x30, 0x31, 0x32, 0x33, 0x34, 0x35, 0x36, 0x37, 0x38, 0x39]
  ++ [0x41, 0x42, 0x43, 0x44, 0x45, 0x46, 0x47, 0x48, 0x49, 0x4A, 0x4B, 0x4C, 0x4D,
      0x4E, 0x4F, 0x50, 0x51, 0x52, 0x53, 0x54, 0x55, 0x56, 0x57, 0x58, 0x59, 0x5A]
  ++ [0x20, 0x24, 0x25, 0x2A, 0x2B, 0x2D, 0x2E, 0x2F, 0x3A]

/-- ALNUM[k] (43_segment_decoder.md R199). -/
def alnum (k : Nat) : Nat := alnumTable.getD k 0

end Sys2Proof.Machine
end

