-- ==== Sys2Proof/Machine/Rsd.lean ====
section
/-! DEFINITION. Unit RSD: pad check, de-interleaving, block correction, reassembly (42_rs_deinterleaver.md R170-R176). -/

namespace Sys2Proof.Machine

/-- The layout of the configured version and level (42_rs_deinterleaver.md R172). -/
def configuredLayout (s : State) : BlockLayout := layoutOf s.version.toNat (levelOf s.ecl)

/-- CAP_BITS: the raw capacity when V_VALID = 1, else 0 (10_state.md R42). -/
def capBits (s : State) : Nat := if s.vValid then capBitsOf s.version.toNat else 0

/-- The LAYOUT word: B2, D1, B1, E when F_VALID = 1, else 0 (10_state.md R43). -/
def layoutWord (s : State) : Word :=
  if s.fValid then
    (BitVec.ofNat 8 (configuredLayout s).b2 ++ BitVec.ofNat 8 (configuredLayout s).d1
      ++ BitVec.ofNat 8 (configuredLayout s).b1 ++ BitVec.ofNat 8 (configuredLayout s).ec : BitVec 32)
  else 0#32

/-- The remainder bits' value, first bit most significant (42_rs_deinterleaver.md R176). -/
def padValue (s : State) : Nat :=
  bitsNat (rawBits s (8 * totalCw s.version.toNat) (remBits s.version.toNat))

/-- Rb[k]: raw byte k, read most significant bit first (42_rs_deinterleaver.md R175). -/
def rawByte (s : State) (k : Nat) : Byte := BitVec.ofNat 8 (bitsNat (rawBits s (8 * k) 8))

/-- The raw bytes of the whole symbol (42_rs_deinterleaver.md R175). -/
def rawBytes (s : State) : List Byte := (List.range (totalCw s.version.toNat)).map (rawByte s)

/-- The block each byte of the interleaved data stream goes to: column by column, column D1 to the long blocks only
(42_rs_deinterleaver.md R175). -/
def dataOwners (lay : BlockLayout) : List Nat :=
  (List.range (lay.d1 + 1)).flatMap fun j => (List.range (blockCount lay)).filter fun b => j < blockData lay b

/-- The block each byte of the interleaved EC stream goes to (42_rs_deinterleaver.md R175). -/
def ecOwners (lay : BlockLayout) : List Nat :=
  (List.range lay.ec).flatMap fun _ => List.range (blockCount lay)

/-- The bytes dealt to block b, in stream order (42_rs_deinterleaver.md R175). -/
def dealtTo (b : Nat) (owners : List Nat) (stream : List Byte) : List Byte :=
  ((owners.zip stream).filter fun e => e.1 == b).map Prod.snd

/-- block[b] = data[b] ++ ec[b] (42_rs_deinterleaver.md R175). -/
def blockOf (lay : BlockLayout) (stream : List Byte) (b : Nat) : List Byte :=
  dealtTo b (dataOwners lay) (stream.take (dataCw lay)) ++ dealtTo b (ecOwners lay) (stream.drop (dataCw lay))

/-- Correct the next n blocks from block b on, in block order: the data parts joined and the corrected byte positions
counted, or the index of the first block that fails (42_rs_deinterleaver.md R176). -/
def correctBlocks (lay : BlockLayout) (stream : List Byte) : (b n : Nat) → Except Nat (List Byte × Nat)
  | _, 0 => .ok ([], 0)
  | b, n + 1 =>
    match rsDecode lay.ec (blockOf lay stream b) with
    | none => .error b
    | some (c, e) =>
      match correctBlocks lay stream (b + 1) n with
      | .error k => .error k
      | .ok (message, corrections) => .ok (c.take (blockData lay b) ++ message, e + corrections)

/-- Store a corrected message (42_rs_deinterleaver.md R176). -/
def storeMessage (message : List Byte) (corrections : Nat) (s : State) : State :=
  clearSeg { s with
    msgBuf := bufStore s.msgBuf 0 message
    msgLen := BitVec.ofNat 12 (dataCw (configuredLayout s))
    msgPos := 0#15
    rsNcorr := BitVec.ofNat 16 corrections
    mValid := true }

/-- The body of RS_CORRECT (42_rs_deinterleaver.md R176). -/
def rsCorrectBody (s : State) : Result :=
  if s.rawLen.toNat ≠ capBits s then .failed ⟨.lengthMismatch, zext32 s.rawLen⟩ s
  else if padValue s ≠ 0 then .failed ⟨.dataCorruptPad, natWord (padValue s)⟩ s
  else
    match correctBlocks (configuredLayout s) (rawBytes s) 0 (blockCount (configuredLayout s)) with
    | .error b => .failed ⟨.dataCorruptRs, natWord b⟩ s
    | .ok (message, corrections) => .done (storeMessage message corrections s)

/-- RS_CORRECT: R_VALID = 1, else SEQUENCE (42_rs_deinterleaver.md R176). -/
def execRsCorrect (s : State) : Host.Outcome State Fault Refusal := finish (require s.rValid s (rsCorrectBody s))

end Sys2Proof.Machine
end

