-- ==== Sys2Proof/Machine/Bus.lean ====
section
/-! DEFINITION. The host bus: the register map, the windows, reads and writes (10_state.md R22-R43, 20_memory.md
R60-R69, R80; 60_exceptions.md R247). -/

namespace Sys2Proof.Machine

/-- The registers of the page (10_state.md R22). -/
inductive Reg where
  | id
  | ctrl
  | cmd
  | status
  | errinfo
  | config
  | wdata
  | rdata
  | fmtS1
  | fmtS2
  | fmtResult
  | rawLen
  | rawPos
  | msgLen
  | msgPos
  | rsNcorr
  | segMode
  | segCount
  | outLen
  | capBits
  | layout
  deriving DecidableEq, Repr

/-- The registers in the order of their offsets 0x000, 0x004, …, 0x050 (10_state.md R22). -/
def registerMap : List Reg :=
  [.id, .ctrl, .cmd, .status, .errinfo, .config, .wdata, .rdata, .fmtS1, .fmtS2, .fmtResult, .rawLen, .rawPos, .msgLen,
   .msgPos, .rsNcorr, .segMode, .segCount, .outLen, .capBits, .layout]

/-- The offset of a register (10_state.md R22). -/
def registerOffset (r : Reg) : BitVec 15 := BitVec.ofNat 15 (4 * registerMap.idxOf r)

/-- What a word offset reaches: a register, or word w of a window (20_memory.md R60). -/
inductive Target where
  | reg (r : Reg)
  | raw (w : Nat)
  | msg (w : Nat)
  | out (w : Nat)
  deriving DecidableEq, Repr

/-- The map of the bus space; none is an unmapped offset (20_memory.md R60). -/
def mapOffset (offset : Nat) : Option Target :=
  if offset < 0x1000 then (registerMap[offset / 4]?).map .reg
  else if offset < 0x2000 then some (.raw ((offset - 0x1000) / 4))
  else if offset < 0x3000 then some (.msg ((offset - 0x2000) / 4))
  else if offset < 0x4000 then none
  else if offset < 0x8000 then some (.out ((offset - 0x4000) / 4))
  else none

/-- What an access reaches: 32-bit accesses at multiples of 4 only; none is a bus error (20_memory.md R61, R62). -/
def accessTarget (width : Width) (offset : BitVec 15) : Option Target :=
  if width = .word ∧ offset.toNat % 4 = 0 then mapOffset offset.toNat else none

/-- The word of a register, read while BUSY = 0 (10_state.md R22-R43; CTRL and CMD read 0, 20_memory.md R63). -/
def readRegister (r : Reg) (s : State) : Word :=
  match r with
  | .id => Config.idValue
  | .ctrl => 0#32
  | .cmd => 0#32
  | .status => statusWord s
  | .errinfo => s.errInfo
  | .config => configWord s
  | .wdata => s.wdata
  | .rdata => s.rdata
  | .fmtS1 => zext32 s.fmtS1
  | .fmtS2 => zext32 s.fmtS2
  | .fmtResult => s.fmtResult
  | .rawLen => zext32 s.rawLen
  | .rawPos => zext32 s.rawPos
  | .msgLen => zext32 s.msgLen
  | .msgPos => zext32 s.msgPos
  | .rsNcorr => zext32 s.rsNcorr
  | .segMode => zext32 s.segMode
  | .segCount => zext32 s.segCount
  | .outLen => zext32 s.outLen
  | .capBits => zext32 (BitVec.ofNat 15 (capBits s))
  | .layout => layoutWord s

/-- RB(i): RAWBUF[i] below RAW_LEN, else 0 (20_memory.md R64). -/
def rawWindowBit (s : State) (i : Nat) : Bool := decide (i < s.rawLen.toNat) && bufRead s.rawBuf i

/-- byte(k) of the RAW window: RB(8k) is bit 7 (20_memory.md R64). -/
def rawWindowByte (s : State) (k : Nat) : Byte :=
  BitVec.ofNat 8 (bitsNat ((List.range 8).map fun j => rawWindowBit s (8 * k + j)))

/-- MB(k): MSGBUF[k] below MSG_LEN, else 0 (20_memory.md R65). -/
def msgWindowByte (s : State) (k : Nat) : Byte := if k < s.msgLen.toNat then bufRead s.msgBuf k else 0#8

/-- OB(k): OUTBUF[k] below OUT_LEN, else 0 (20_memory.md R66). -/
def outWindowEntry (s : State) (k : Nat) : BitVec 16 := if k < s.outLen.toNat then bufRead s.outBuf k else 0#16

/-- Four bytes as a word, the byte at the lowest address in [7:0] (20_memory.md R68). -/
def littleEndian (byte : Nat → Byte) (w : Nat) : Word :=
  (byte (4 * w + 3) ++ byte (4 * w + 2) ++ byte (4 * w + 1) ++ byte (4 * w) : BitVec 32)

/-- The word a mapped offset holds, read while BUSY = 0 (20_memory.md R64-R66). -/
def readTarget (t : Target) (s : State) : Word :=
  match t with
  | .reg r => readRegister r s
  | .raw w => littleEndian (rawWindowByte s) w
  | .msg w => littleEndian (msgWindowByte s) w
  | .out w => (outWindowEntry s (2 * w + 1) ++ outWindowEntry s (2 * w) : BitVec 32)

/-- The word a mapped offset returns while BUSY = 1: of STATUS, BUSY and OVERRUN are given; all else is free
(20_memory.md R80). -/
def readWhileBusy (t : Target) (s : State) : Word :=
  if t = .reg .status then statusWhileBusy (Config.freeBusWord s.draws) s.overrun else Config.freeBusWord s.draws

/-- A read (20_memory.md R61, R62, R69, R80). -/
def hostRead (width : Width) (offset : BitVec 15) (s : State) : State :=
  match accessTarget width offset with
  | none => { s with reply := .readError (Config.freeBusWord s.draws), draws := s.draws + 1 }
  | some t =>
    if s.busy then { s with reply := .data (readWhileBusy t s), draws := s.draws + 1 }
    else { s with reply := .data (readTarget t s) }

/-- A CTRL write: SRST first, then CLRERR, honoured whether or not BUSY (10_state.md R23). -/
def writeCtrl (v : Word) (s : State) : State :=
  if v.getLsbD 0 then resetBlock s else if v.getLsbD 1 then clearError s else s

/-- An operand register write: dropped with OVERRUN while BUSY = 1 (60_exceptions.md R247). -/
def writeOperand (s written : State) : State := if s.busy then { s with overrun := true } else written

/-- A write to a register; a read-only one ignores it (20_memory.md R63, R69). -/
def writeRegister (r : Reg) (v : Word) (s : State) : State :=
  match r with
  | .ctrl => writeCtrl v s
  | .cmd => submitCommand v s
  | .wdata => writeOperand s { s with wdata := v }
  | .fmtS1 => writeOperand s { s with fmtS1 := v.extractLsb' 0 15 }
  | .fmtS2 => writeOperand s { s with fmtS2 := v.extractLsb' 0 15 }
  | .id => s
  | .status => s
  | .errinfo => s
  | .config => s
  | .rdata => s
  | .fmtResult => s
  | .rawLen => s
  | .rawPos => s
  | .msgLen => s
  | .msgPos => s
  | .rsNcorr => s
  | .segMode => s
  | .segCount => s
  | .outLen => s
  | .capBits => s
  | .layout => s

/-- A write to a mapped offset; a window ignores it (20_memory.md R63). -/
def writeTarget (t : Target) (v : Word) (s : State) : State :=
  match t with
  | .reg r => writeRegister r v s
  | .raw _ => s
  | .msg _ => s
  | .out _ => s

/-- A write (20_memory.md R61-R63). -/
def hostWrite (width : Width) (offset : BitVec 15) (v : Word) (s : State) : State :=
  match accessTarget width offset with
  | none => { s with reply := .writeError }
  | some t => { writeTarget t v s with reply := .written }

/-- One host access (20_memory.md R75: atomic). -/
def hostAccess (a : Access) (s : State) : State :=
  match a with
  | .read width offset => hostRead width offset s
  | .write width offset v => hostWrite width offset v s

end Sys2Proof.Machine
end

