-- ==== Sys2Proof/Machine/Fmt.lean ====
section
/-! DEFINITION. Unit FMT: the BCH(15,5) format-info commands (40_format_codec.md). -/

namespace Sys2Proof.Machine

/-- One step of the remainder: bit i + 10 set subtracts FMT_GEN·x^i (00_scope.md R14). -/
def bchStep (w : BitVec 15) (i : Nat) : BitVec 15 :=
  if w.getLsbD (i + Config.fmtRemainderBits) then w ^^^ (Config.fmtGen <<< i) else w

/-- bchrem(w) (00_scope.md R14). -/
def bchrem (w : BitVec 15) : BitVec 10 := ([4, 3, 2, 1, 0].foldl bchStep w).extractLsb' 0 10

/-- fmt_cw(d) = (d << 10) | bchrem(d << 10) (40_format_codec.md R110). -/
def fmtCw (d : BitVec 5) : BitVec 15 := (d ++ bchrem (d ++ 0#10 : BitVec 15) : BitVec 15)

/-- popcount of a 15-bit word (00_scope.md R11). -/
def popcount (w : BitVec 15) : Nat := (List.range Config.fmtBits).countP fun i => w.getLsbD i

/-- The 32 format values in ascending order. -/
def formatValues : List (BitVec 5) := (List.range (2 ^ Config.fmtDataBits)).map (BitVec.ofNat 5)

/-- The least of the distances of all 32 values (40_format_codec.md R113). -/
def minDistance (dist : BitVec 5 → Nat) : Nat := (formatValues.map dist).foldl Nat.min (dist 0#5)

/-- The values that attain a distance (40_format_codec.md R113). -/
def candidates (dist : BitVec 5 → Nat) (m : Nat) : List (BitVec 5) := formatValues.filter fun d => dist d == m

/-- FORMAT_CORRUPT with ERRINFO [9] over budget, [8] tie, [5:0] the minimum distance (40_format_codec.md R113). -/
def formatCorrupt (tooFar tied : Bool) (m : Nat) : CmdError :=
  ⟨.formatCorrupt, zext32 (BitVec.ofBool tooFar ++ BitVec.ofBool tied ++ 0#2 ++ BitVec.ofNat 6 m)⟩

/-- nearest(dist, budget): the one nearest value and its distance, or FORMAT_CORRUPT (40_format_codec.md R113). -/
def nearest (dist : BitVec 5 → Nat) (budget : Nat) : Except CmdError (BitVec 5 × Nat) :=
  match minDistance dist with
  | m =>
    match candidates dist m with
    | [d] => if budget < m then .error (formatCorrupt true false m) else .ok (d, m)
    | _ => .error (formatCorrupt (decide (budget < m)) true m)

/-- dist1(w) (40_format_codec.md R113). -/
def dist1 (w : BitVec 15) (d : BitVec 5) : Nat := popcount (fmtCw d ^^^ w)

/-- dist2(w1, w2) (40_format_codec.md R113). -/
def dist2 (w1 w2 : BitVec 15) (d : BitVec 5) : Nat := popcount (fmtCw d ^^^ w1) + popcount (fmtCw d ^^^ w2)

/-- The value and distance FMT_DECODE1 finds (40_format_codec.md R114). -/
def recover1 (w : BitVec 15) : Except CmdError (BitVec 5 × Nat) :=
  if bchrem w = 0#10 then .ok (w.extractLsb' 10 5, 0) else nearest (dist1 w) Config.fmtBudget1

/-- The value and distance FMT_DECODE2 finds (40_format_codec.md R115). -/
def recover2 (w1 w2 : BitVec 15) : Except CmdError (BitVec 5 × Nat) :=
  if bchrem w1 = 0#10 ∧ bchrem w2 = 0#10 ∧ w1 = w2 then .ok (w1.extractLsb' 10 5, 0)
  else nearest (dist2 w1 w2) Config.fmtBudget2

/-- FMT_RESULT after FMT_ENCODE: masked in [30:16], unmasked in [14:0] (40_format_codec.md R111). -/
def encodeWord (fv : BitVec 5) : Word :=
  (0#1 ++ (fmtCw fv ^^^ Config.fmtMask) ++ 0#1 ++ fmtCw fv : BitVec 32)

/-- FMT_RESULT after FMT_DECODE: [13:8] the distance, [4:0] the value (40_format_codec.md R114). -/
def decodeWord (d : BitVec 5) (m : Nat) : Word := zext32 (BitVec.ofNat 6 m ++ 0#3 ++ d)

/-- The body of FMT_ENCODE (40_format_codec.md R111). -/
def fmtEncodeBody (fv : BitVec 5) (s : State) : Result := .done { s with fmtResult := encodeWord fv }

/-- The body of FMT_CHECK (40_format_codec.md R112). -/
def fmtCheckBody (sel : Sample) (s : State) : Result :=
  .done { s with fmtResult := zext32 (bchrem (sampleValue sel s)) }

/-- A coordinate as the engine presents it: a negative one wraps modulo SIDE (00_scope.md R15, 20_memory.md R72). -/
def wrapCoordinate (side : Nat) (c : Int) : Nat := (c % (side : Int)).toNat

/-- The 15 bits read at a sample's positions, bit 14 first, the mask removed (40_format_codec.md R117). -/
def gatherSample (s : State) (positions : List (Int × Int)) : BitVec 15 :=
  BitVec.ofNat 15 (bitsNat (positions.map fun p =>
    moduleRead s (wrapCoordinate s.side.toNat p.1) (wrapCoordinate s.side.toNat p.2))) ^^^ Config.fmtMask

/-- The body of FMT_GATHER (40_format_codec.md R117). -/
def fmtGatherBody (s : State) : Result :=
  .done { s with fmtS1 := gatherSample s formatPositions1, fmtS2 := gatherSample s formatPositions2 }

/-- The effect of a recovered format value: FMT_RESULT, and the format when a version is configured
(40_format_codec.md R114, R115). -/
def recordFormat (d : BitVec 5) (m : Nat) (s : State) : State :=
  if s.vValid then applyFormat d { s with fmtResult := decodeWord d m } else { s with fmtResult := decodeWord d m }

/-- Record what a search found, or fail with everything unchanged (40_format_codec.md R114, R115). -/
def formatOutcome (found : Except CmdError (BitVec 5 × Nat)) (s : State) : Result :=
  match found with
  | .ok (d, m) => .done (recordFormat d m s)
  | .error e => .failed e s

/-- The body of FMT_DECODE1 (40_format_codec.md R114). -/
def fmtDecode1Body (s : State) : Result := formatOutcome (recover1 s.fmtS1) s

/-- The body of FMT_DECODE2 (40_format_codec.md R115). -/
def fmtDecode2Body (s : State) : Result := formatOutcome (recover2 s.fmtS1 s.fmtS2) s

/-- FMT_ENCODE (40_format_codec.md R111). -/
def execFmtEncode (fv : BitVec 5) (s : State) : Host.Outcome State Fault Refusal := finish (fmtEncodeBody fv s)

/-- FMT_CHECK (40_format_codec.md R112). -/
def execFmtCheck (sel : Sample) (s : State) : Host.Outcome State Fault Refusal := finish (fmtCheckBody sel s)

/-- FMT_GATHER: V_VALID = 1, else SEQUENCE (40_format_codec.md R117). -/
def execFmtGather (s : State) : Host.Outcome State Fault Refusal := finish (require s.vValid s (fmtGatherBody s))

/-- FMT_DECODE1 (40_format_codec.md R114). -/
def execFmtDecode1 (s : State) : Host.Outcome State Fault Refusal := finish (fmtDecode1Body s)

/-- FMT_DECODE2 (40_format_codec.md R115). -/
def execFmtDecode2 (s : State) : Host.Outcome State Fault Refusal := finish (fmtDecode2Body s)

end Sys2Proof.Machine
end

