-- ==== Sys2Proof/Machine/Seg.lean ====
section
/-! DEFINITION. Unit SEG: the message reader and the segment mode decoder (43_segment_decoder.md). -/

namespace Sys2Proof.Machine

/-- 8·MSG_LEN, the bits of the message stream (43_segment_decoder.md R190). -/
def messageLimit (s : State) : Nat := 8 * s.msgLen.toNat

/-- The body of MSG_READ (43_segment_decoder.md R190). -/
def msgReadBody (n : BitVec 6) (s : State) : Result :=
  if messageLimit s < s.msgPos.toNat + n.toNat then .failed (endOfData .message n.toNat) s
  else .done { s with
    rdata := natWord (messageBits s s.msgPos.toNat n.toNat)
    msgPos := BitVec.ofNat 15 (s.msgPos.toNat + n.toNat) }

/-- The body of MSG_REWIND (43_segment_decoder.md R191). -/
def msgRewindBody (s : State) : Result := .done (clearSeg { s with msgPos := 0#15 })

/-- The mode indicators the block knows to be valid and does not implement: structured append and ECI
(43_segment_decoder.md R192). -/
def modeUnsupported (m : BitVec 4) : Bool := m = 3#4 || m = 7#4

/-- The accepted mode indicators: numeric, alphanumeric, byte, kanji (43_segment_decoder.md R192). -/
def modeAccepted (m : BitVec 4) : Bool := m = 1#4 || m = 2#4 || m = 4#4 || m = 8#4

/-- What SEG_MODE does with an indicator it read (43_segment_decoder.md R193). -/
def acceptMode (m : BitVec 4) (s : State) : Result :=
  if modeUnsupported m then .failed ⟨.unsupported, zext32 m⟩ s
  else if modeAccepted m then
    .done { s with msgPos := BitVec.ofNat 15 (s.msgPos.toNat + 4), segMode := m, sstate := .modeRead }
  else .failed ⟨.illegalMode, zext32 m⟩ s

/-- The body of SEG_MODE (43_segment_decoder.md R193). -/
def segModeBody (s : State) : Result :=
  if messageLimit s < s.msgPos.toNat + 4 then .failed (endOfData .message 4) s
  else acceptMode (BitVec.ofNat 4 (messageBits s s.msgPos.toNat 4)) s

/-- The width of the count field of the present segment (43_segment_decoder.md R194, R195). -/
def countWidth (s : State) : Nat := ccWidth s.segMode (tierOf s.version.toNat)

/-- The body of SEG_COUNT (43_segment_decoder.md R195). -/
def segCountBody (s : State) : Result :=
  if messageLimit s < s.msgPos.toNat + countWidth s then .failed (endOfData .message (countWidth s)) s
  else .done { s with
    segCount := BitVec.ofNat 16 (messageBits s s.msgPos.toNat (countWidth s))
    msgPos := BitVec.ofNat 15 (s.msgPos.toNat + countWidth s)
    sstate := .countRead }

/-- One OUTBUF entry. -/
abbrev Entry := BitVec 16

/-- A group of the payload: its width in bits, and the entries a value of it emits, none when the value is illegal. -/
structure Group where
  width : Nat
  emits : Nat → Option (List Entry)

/-- ILLEGAL_VALUE: ERRINFO[19:16] the width, [15:0] the value (60_exceptions.md R231). -/
def illegalValue (width value : Nat) : CmdError :=
  ⟨.illegalValue, zext32 (BitVec.ofNat 4 width ++ BitVec.ofNat 16 value)⟩

/-- take one group at bit position pos and emit its entries (43_segment_decoder.md R197). -/
def takeGroup (s : State) (g : Group) (pos : Nat) : Except CmdError (List Entry) :=
  if messageLimit s < pos + g.width then .error (endOfData .message g.width)
  else
    match g.emits (messageBits s pos g.width) with
    | none => .error (illegalValue g.width (messageBits s pos g.width))
    | some entries => .ok entries

/-- take k groups of one kind in stream order; the first failure is the one raised (43_segment_decoder.md R197). -/
def takeGroups (s : State) (g : Group) : (k pos : Nat) → Except CmdError (List Entry)
  | 0, _ => .ok []
  | k + 1, pos =>
    match takeGroup s g pos with
    | .error e => .error e
    | .ok entries =>
      match takeGroups s g k (pos + g.width) with
      | .error e => .error e
      | .ok rest => .ok (entries ++ rest)

/-- k groups of one kind, then at most one group of another: the entries and the position after them. -/
def takeThen (s : State) (g : Group) (k : Nat) (last : Option Group) (pos : Nat) : Except CmdError (List Entry × Nat) :=
  match takeGroups s g k pos with
  | .error e => .error e
  | .ok entries =>
    match last with
    | none => .ok (entries, pos + k * g.width)
    | some h =>
      match takeGroup s h (pos + k * g.width) with
      | .error e => .error e
      | .ok final => .ok (entries ++ final, pos + k * g.width + h.width)

/-- The ASCII code of a digit (43_segment_decoder.md R198). -/
def digit (v : Nat) : Entry := BitVec.ofNat 16 (0x30 + v)

/-- Three digits in 10 bits (43_segment_decoder.md R198). -/
def threeDigits : Group :=
  ⟨10, fun v => if 999 < v then none else some [digit (v / 100), digit ((v / 10) % 10), digit (v % 10)]⟩

/-- Two digits in 7 bits (43_segment_decoder.md R198). -/
def twoDigits : Group := ⟨7, fun v => if 99 < v then none else some [digit (v / 10), digit (v % 10)]⟩

/-- One digit in 4 bits (43_segment_decoder.md R198). -/
def oneDigit : Group := ⟨4, fun v => if 9 < v then none else some [digit v]⟩

/-- Two alphanumeric characters in 11 bits (43_segment_decoder.md R200). -/
def alnumPair : Group :=
  ⟨11, fun v => if 2025 ≤ v then none
    else some [BitVec.ofNat 16 (alnum (v / 45)), BitVec.ofNat 16 (alnum (v % 45))]⟩

/-- One alphanumeric character in 6 bits (43_segment_decoder.md R200). -/
def alnumSingle : Group := ⟨6, fun v => if 45 ≤ v then none else some [BitVec.ofNat 16 (alnum v)]⟩

/-- One byte in 8 bits; no value is illegal (43_segment_decoder.md R201). -/
def rawByteGroup : Group := ⟨8, fun v => some [BitVec.ofNat 16 v]⟩

/-- num, the intermediate value of a 13-bit kanji code (43_segment_decoder.md R202). -/
def kanjiNum (m : Nat) : Nat := (m / 0xC0) * 256 + m % 0xC0

/-- The Shift-JIS code of a 13-bit kanji code (43_segment_decoder.md R202). -/
def kanjiCode (m : Nat) : Nat := if kanjiNum m < 0x1F00 then kanjiNum m + 0x8140 else kanjiNum m + 0xC140

/-- One kanji in 13 bits; no value is illegal (43_segment_decoder.md R202). -/
def kanjiGroup : Group := ⟨13, fun v => some [BitVec.ofNat 16 (kanjiCode v)]⟩

/-- The final group of c digits: two, one or none left over (43_segment_decoder.md R198). -/
def numericLast (c : Nat) : Option Group :=
  if c % 3 = 2 then some twoDigits else if c % 3 = 1 then some oneDigit else none

/-- The final group of c alphanumeric characters (43_segment_decoder.md R200). -/
def alnumLast (c : Nat) : Option Group := if c % 2 = 1 then some alnumSingle else none

/-- The payload of c characters in a mode, from bit position pos on (43_segment_decoder.md R197-R202). The spec has no
other mode; no run reaches one here, and none is taken then (log entry 10). -/
def payload (s : State) (mode : BitVec 4) (c pos : Nat) : Except CmdError (List Entry × Nat) :=
  if mode = 1#4 then takeThen s threeDigits (c / 3) (numericLast c) pos
  else if mode = 2#4 then takeThen s alnumPair (c / 2) (alnumLast c) pos
  else if mode = 4#4 then takeThen s rawByteGroup c none pos
  else if mode = 8#4 then takeThen s kanjiGroup c none pos
  else .ok ([], pos)

/-- Store an unpacked payload (43_segment_decoder.md R197). -/
def storePayload (entries : List Entry) (pos : Nat) (s : State) : State :=
  { s with
    outBuf := bufStore s.outBuf 0 entries
    outLen := BitVec.ofNat 14 entries.length
    msgPos := BitVec.ofNat 15 pos
    sstate := .idle }

/-- The rollback of a payload error: OUT_LEN is 0, all else as before (43_segment_decoder.md R197, 60_exceptions.md
R234). -/
def dropPayload (s : State) : State := { s with outLen := 0#14 }

/-- The body of SEG_PAYLOAD (43_segment_decoder.md R197). -/
def segPayloadBody (s : State) : Result :=
  match payload s s.segMode s.segCount.toNat s.msgPos.toNat with
  | .error e => .failed e (dropPayload s)
  | .ok (entries, pos) => .done (storePayload entries pos s)

/-- The body of SEG_DECODE: the three bodies in order; an error rolls back all of it, and a payload error leaves
OUT_LEN = 0 (43_segment_decoder.md R204). -/
def segDecodeBody (s : State) : Result :=
  match segModeBody s with
  | .failed e _ => .failed e s
  | .done s1 =>
    match segCountBody s1 with
    | .failed e _ => .failed e s
    | .done s2 =>
      match segPayloadBody s2 with
      | .failed e _ => .failed e (dropPayload s)
      | .done s3 => .done s3

/-- MSG_READ: N at most 32, then M_VALID = 1, else SEQUENCE (43_segment_decoder.md R190). -/
def execMsgRead (n : BitVec 6) (s : State) : Host.Outcome State Fault Refusal :=
  finish (checkCount n s (require s.mValid s (msgReadBody n s)))

/-- MSG_REWIND: M_VALID = 1, else SEQUENCE (43_segment_decoder.md R191). -/
def execMsgRewind (s : State) : Host.Outcome State Fault Refusal :=
  finish (require s.mValid s (msgRewindBody s))

/-- SEG_MODE: M_VALID = 1 and SSTATE = IDLE, else SEQUENCE (43_segment_decoder.md R193). -/
def execSegMode (s : State) : Host.Outcome State Fault Refusal :=
  finish (require (s.mValid && s.sstate == .idle) s (segModeBody s))

/-- SEG_COUNT: SSTATE = MODE_READ, else SEQUENCE (43_segment_decoder.md R195). -/
def execSegCount (s : State) : Host.Outcome State Fault Refusal :=
  finish (require (s.sstate == .modeRead) s (segCountBody s))

/-- SEG_PAYLOAD: SSTATE = COUNT_READ, else SEQUENCE (43_segment_decoder.md R197). DEDUCED, log entry 18: SEQUENCE leaves
OUT_LEN as it was; only an error of the payload body sets it to 0, though R197's "On error, OUT_LEN is 0" follows a list
of errors that has SEQUENCE in it. -/
def execSegPayload (s : State) : Host.Outcome State Fault Refusal :=
  finish (require (s.sstate == .countRead) s (segPayloadBody s))

/-- SEG_DECODE: M_VALID = 1 and SSTATE = IDLE, else SEQUENCE (43_segment_decoder.md R204). -/
def execSegDecode (s : State) : Host.Outcome State Fault Refusal :=
  finish (require (s.mValid && s.sstate == .idle) s (segDecodeBody s))

end Sys2Proof.Machine
end

