-- ==== Sys2Proof/Machine/Geometry.lean ====
section
/-! DEFINITION. Mask formulas, reserved zones and the zig-zag order (41_zigzag_reader.md R137-R141). -/

namespace Sys2Proof.Machine

/-- mask(m, i, j), row i and column j (41_zigzag_reader.md R137). -/
def maskBit (m : BitVec 3) (i j : Nat) : Bool :=
  match m.toNat with
  | 0 => (i + j) % 2 == 0
  | 1 => i % 2 == 0
  | 2 => j % 3 == 0
  | 3 => (i + j) % 3 == 0
  | 4 => (i / 2 + j / 3) % 2 == 0
  | 5 => (i * j) % 2 + (i * j) % 3 == 0
  | 6 => ((i * j) % 2 + (i * j) % 3) % 2 == 0
  | _ => ((i + j) % 2 + (i * j) % 3) % 2 == 0

/-- The kinds of reserved zones (41_zigzag_reader.md R140). -/
inductive ZoneKind where
  | TL
  | TR
  | TRF
  | BL
  | TH
  | TV
  | VTR
  | VBL
  | AL
  deriving DecidableEq, Repr

/-- The number of a kind (41_zigzag_reader.md R140). -/
def zoneCode : ZoneKind → BitVec 4
  | .TL => 1#4
  | .TR => 2#4
  | .TRF => 3#4
  | .BL => 4#4
  | .TH => 5#4
  | .TV => 6#4
  | .VTR => 7#4
  | .VBL => 8#4
  | .AL => 9#4

/-- A reserved zone: an inclusive rectangle (x0, y0, x1, y1) (41_zigzag_reader.md R140). -/
structure Zone where
  kind : ZoneKind
  x0 : Nat
  y0 : Nat
  x1 : Nat
  y1 : Nat
  deriving DecidableEq, Repr

/-- Zones 1-4, the finder and format corners (41_zigzag_reader.md R140). -/
def cornerZones (s : Nat) : List Zone :=
  [⟨.TL, 0, 0, 8, 8⟩, ⟨.TR, s - 8, 0, s - 1, 7⟩, ⟨.TRF, s - 8, 8, s - 1, 8⟩, ⟨.BL, 0, s - 8, 8, s - 1⟩]

/-- Zones 5-6, the timing row and column (41_zigzag_reader.md R140). -/
def timingZones (s : Nat) : List Zone :=
  [⟨.TH, 0, 6, s - 1, 6⟩, ⟨.TV, 6, 0, 6, s - 1⟩]

/-- Zones 7-8, the version-info blocks, from version 7 on (41_zigzag_reader.md R140). -/
def versionZones (v s : Nat) : List Zone :=
  if 7 ≤ v then [⟨.VTR, s - 11, 0, s - 9, 5⟩, ⟨.VBL, 0, s - 11, 5, s - 9⟩] else []

/-- Two rectangles overlap iff their projections overlap on both axes (41_zigzag_reader.md R140). -/
def zonesOverlap (a b : Zone) : Bool :=
  a.x0 ≤ b.x1 && b.x0 ≤ a.x1 && a.y0 ≤ b.y1 && b.y0 ≤ a.y1

/-- The 5×5 square centred on (cx, cy) (41_zigzag_reader.md R140). -/
def alignSquare (cx cy : Nat) : Zone := ⟨.AL, cx - 2, cy - 2, cx + 2, cy + 2⟩

/-- The alignment squares of every centre in P × P, cy outer, cx inner, kept when they overlap none of zones 1-4
(41_zigzag_reader.md R140). -/
def alignZones (v s : Nat) : List Zone :=
  ((alignPos v).flatMap fun cy => (alignPos v).map fun cx => alignSquare cx cy).filter fun z =>
    !(cornerZones s).any (zonesOverlap z)

/-- The reserved zones of version v in their fixed order (41_zigzag_reader.md R140). -/
def zonesOf (v : Nat) : List Zone :=
  cornerZones (sideOf v) ++ timingZones (sideOf v) ++ versionZones v (sideOf v) ++ alignZones v (sideOf v)

/-- The module (x, y) lies in the zone (41_zigzag_reader.md R140). -/
def inZone (x y : Nat) (z : Zone) : Bool := z.x0 ≤ x && x ≤ z.x1 && z.y0 ≤ y && y ≤ z.y1

/-- reserved(x, y), for a list of zones (41_zigzag_reader.md R140). -/
def reservedIn (zones : List Zone) (x y : Nat) : Bool := zones.any (inZone x y)

/-- reserved(x, y) of version v (41_zigzag_reader.md R140). -/
def reserved (v x y : Nat) : Bool := reservedIn (zonesOf v) x y

/-- The unreserved modules of one pair of columns with right column x: rows upward or downward, the right column
before the left (41_zigzag_reader.md R141). -/
def pairOrder (zones : List Zone) (s x : Nat) (up : Bool) : List (Nat × Nat) :=
  (List.range s).flatMap fun i =>
    [(x, if up then s - 1 - i else i), (x - 1, if up then s - 1 - i else i)].filter fun p =>
      !reservedIn zones p.1 p.2

/-- The right column a pair starts at: the vertical timing column is stepped over (41_zigzag_reader.md R141). -/
def skipTiming (x : Nat) : Nat := if x = 6 then 5 else x

/-- The loop of order(v) from right column x on; fuel bounds the number of pairs (41_zigzag_reader.md R141). -/
def orderFrom (zones : List Zone) (s : Nat) : (fuel x : Nat) → (up : Bool) → List (Nat × Nat)
  | 0, _, _ => []
  | fuel + 1, x, up =>
    if x < 1 then []
    else pairOrder zones s (skipTiming x) up ++ orderFrom zones s fuel (skipTiming x - 2) (!up)

/-- order(v): the coordinates of the zig-zag traversal (41_zigzag_reader.md R141). -/
def order (v : Nat) : List (Nat × Nat) :=
  orderFrom (zonesOf v) (sideOf v) (sideOf v) (sideOf v - 1) true

end Sys2Proof.Machine
end

