-- ==== Sys2Proof/Machine/Zzr.lean ====
section
/-! DEFINITION. Unit ZZR: configuration, mask table, reserved zones, traversal, raw stream (41_zigzag_reader.md). -/

namespace Sys2Proof.Machine

/-- ILLEGAL_VERSION with the offending raw value (60_exceptions.md R231). -/
def illegalVersion (value : Word) : CmdError := ⟨.illegalVersion, value⟩

/-- The body of SET_VERSION (41_zigzag_reader.md R130). -/
def setVersionBody (ver : BitVec 6) (s : State) : Result :=
  if ver.toNat < Config.versionMin ∨ Config.versionMax < ver.toNat then .failed (illegalVersion (zext32 ver)) s
  else .done (configureVersion ver.toNat s)

/-- The body of SET_SIDE (41_zigzag_reader.md R131). -/
def setSideBody (side : BitVec 8) (s : State) : Result :=
  if side.toNat < 21 ∨ 177 < side.toNat ∨ (side.toNat - 17) % 4 ≠ 0 then .failed (illegalVersion (zext32 side)) s
  else .done (configureVersion ((side.toNat - 17) / 4) s)

/-- The body of SET_FORMAT (41_zigzag_reader.md R132). -/
def setFormatBody (fv : BitVec 5) (s : State) : Result := .done (applyFormat fv s)

/-- The body of MASK_EVAL (41_zigzag_reader.md R138). -/
def maskEvalBody (mid : BitVec 3) (row col : BitVec 8) (s : State) : Result :=
  .done { s with rdata := zext32 (BitVec.ofBool (maskBit mid row.toNat col.toNat)) }

/-- RDATA after DZ_QUERY: [7:4] the kind of the first zone that holds the module, [0] reserved; 0 if none does
(41_zigzag_reader.md R143). -/
def zoneWord (v x y : Nat) : Word :=
  match (zonesOf v).find? (inZone x y) with
  | some z => zext32 (zoneCode z.kind ++ 0#3 ++ 1#1)
  | none => 0#32

/-- The body of DZ_QUERY (41_zigzag_reader.md R143). -/
def dzQueryBody (x y : BitVec 8) (s : State) : Result :=
  if s.side ≤ x ∨ s.side ≤ y then .failed (illegalCommand s) s
  else .done { s with rdata := zoneWord s.version.toNat x.toNat y.toNat }

/-- The raw stream of a traversal: each module in order, XOR the mask at row y, column x (41_zigzag_reader.md R142). -/
def traversedBits (s : State) : List Bool :=
  (order s.version.toNat).map fun p => xor (moduleRead s p.1 p.2) (maskBit s.maskId p.2 p.1)

/-- The body of ZZ_TRAVERSE (41_zigzag_reader.md R142). -/
def zzTraverseBody (s : State) : Result :=
  .done (clearMsg { s with
    rawBuf := bufStore s.rawBuf 0 (traversedBits s)
    rawLen := BitVec.ofNat 15 (order s.version.toNat).length
    rawPos := 0#15
    rValid := true })

/-- The body of RAW_CLEAR (41_zigzag_reader.md R144). -/
def rawClearBody (s : State) : Result :=
  .done (clearMsg { s with rawLen := 0#15, rawPos := 0#15, rValid := true })

/-- The body of RAW_APPEND (41_zigzag_reader.md R145). -/
def rawAppendBody (n : BitVec 6) (s : State) : Result :=
  if Config.rawbufBits < s.rawLen.toNat + n.toNat then .failed ⟨.bufferFull, zext32 s.rawLen⟩ s
  else .done (clearMsg { s with
    rawBuf := bufStore s.rawBuf s.rawLen.toNat (wdataBits s n.toNat)
    rawLen := BitVec.ofNat 15 (s.rawLen.toNat + n.toNat) })

/-- The body of RAW_READ (41_zigzag_reader.md R146). -/
def rawReadBody (n : BitVec 6) (s : State) : Result :=
  if s.rawLen.toNat < s.rawPos.toNat + n.toNat then .failed (endOfData .raw n.toNat) s
  else .done { s with
    rdata := natWord (bitsNat (rawBits s s.rawPos.toNat n.toNat))
    rawPos := BitVec.ofNat 15 (s.rawPos.toNat + n.toNat) }

/-- The body of RAW_REWIND (41_zigzag_reader.md R147). -/
def rawRewindBody (s : State) : Result := .done { s with rawPos := 0#15 }

/-- SET_VERSION (41_zigzag_reader.md R130). -/
def execSetVersion (ver : BitVec 6) (s : State) : Host.Outcome State Fault Refusal := finish (setVersionBody ver s)

/-- SET_SIDE (41_zigzag_reader.md R131). -/
def execSetSide (side : BitVec 8) (s : State) : Host.Outcome State Fault Refusal := finish (setSideBody side s)

/-- SET_FORMAT: V_VALID = 1, else SEQUENCE (41_zigzag_reader.md R132). -/
def execSetFormat (fv : BitVec 5) (s : State) : Host.Outcome State Fault Refusal :=
  finish (require s.vValid s (setFormatBody fv s))

/-- MASK_EVAL (41_zigzag_reader.md R138). -/
def execMaskEval (mid : BitVec 3) (row col : BitVec 8) (s : State) : Host.Outcome State Fault Refusal :=
  finish (maskEvalBody mid row col s)

/-- DZ_QUERY: V_VALID = 1, else SEQUENCE (41_zigzag_reader.md R143). -/
def execDzQuery (x y : BitVec 8) (s : State) : Host.Outcome State Fault Refusal :=
  finish (require s.vValid s (dzQueryBody x y s))

/-- ZZ_TRAVERSE: V_VALID = 1 and F_VALID = 1, else SEQUENCE (41_zigzag_reader.md R142). -/
def execZzTraverse (s : State) : Host.Outcome State Fault Refusal :=
  finish (require (s.vValid && s.fValid) s (zzTraverseBody s))

/-- RAW_CLEAR: V_VALID = 1 and F_VALID = 1, else SEQUENCE (41_zigzag_reader.md R144). -/
def execRawClear (s : State) : Host.Outcome State Fault Refusal :=
  finish (require (s.vValid && s.fValid) s (rawClearBody s))

/-- RAW_APPEND: N at most 32, then R_VALID = 1, else SEQUENCE (41_zigzag_reader.md R145). -/
def execRawAppend (n : BitVec 6) (s : State) : Host.Outcome State Fault Refusal :=
  finish (checkCount n s (require s.rValid s (rawAppendBody n s)))

/-- RAW_READ: N at most 32, then R_VALID = 1, else SEQUENCE (41_zigzag_reader.md R146). -/
def execRawRead (n : BitVec 6) (s : State) : Host.Outcome State Fault Refusal :=
  finish (checkCount n s (require s.rValid s (rawReadBody n s)))

/-- RAW_REWIND: R_VALID = 1, else SEQUENCE (41_zigzag_reader.md R147). -/
def execRawRewind (s : State) : Host.Outcome State Fault Refusal :=
  finish (require s.rValid s (rawRewindBody s))

end Sys2Proof.Machine
end

