-- ==== Sys2Proof/Machine/Control.lean ====
section
/-! DEFINITION. The commands of no single unit: NOP and DECODE_ALL (44_control.md R220, R221). -/

namespace Sys2Proof.Machine

/-- The body of DECODE_ALL: five sub-steps; the first failure ends it, the completed ones keep their effects
(44_control.md R221). DEDUCED, log entry 17: a failing FMT_DECODE2 leaves F_VALID, CONFIG and all after it as they were
(R221's pseudocode, 40_format_codec.md R115, 60_exceptions.md R234), so F_VALID stays 1 where it was 1, though R221's
prose says F_VALID = 0 after a format error. -/
def decodeAllBody (s : State) : Result :=
  (fmtGatherBody s).andThen fun s1 =>
    (fmtDecode2Body s1).andThen fun s2 =>
      (zzTraverseBody s2).andThen fun s3 =>
        (rsCorrectBody s3).andThen segDecodeBody

/-- NOP: nothing but BUSY falling (44_control.md R220). -/
def execNop (s : State) : Host.Outcome State Fault Refusal := finish (.done s)

/-- DECODE_ALL: V_VALID = 1, else SEQUENCE (44_control.md R221). -/
def execDecodeAll (s : State) : Host.Outcome State Fault Refusal := finish (require s.vValid s (decodeAllBody s))

end Sys2Proof.Machine
end

