-- ==== Sys2Proof/Machine/Dispatch.lean ====
section
/-! DEFINITION. One arm for each command: its meaning. -/

namespace Sys2Proof.Machine

/-- The engine's execution of a decoded command (60_exceptions.md R232). -/
def exec (i : Instr) (s : State) : Host.Outcome State Fault Refusal :=
  match i with
  | .nop => Sys2Proof.Machine.execNop s
  | .setVersion ver => Sys2Proof.Machine.execSetVersion ver s
  | .setSide side => Sys2Proof.Machine.execSetSide side s
  | .setFormat fv => Sys2Proof.Machine.execSetFormat fv s
  | .fmtEncode fv => Sys2Proof.Machine.execFmtEncode fv s
  | .fmtCheck sel => Sys2Proof.Machine.execFmtCheck sel s
  | .fmtGather => Sys2Proof.Machine.execFmtGather s
  | .fmtDecode1 => Sys2Proof.Machine.execFmtDecode1 s
  | .fmtDecode2 => Sys2Proof.Machine.execFmtDecode2 s
  | .maskEval mid row col => Sys2Proof.Machine.execMaskEval mid row col s
  | .dzQuery x y => Sys2Proof.Machine.execDzQuery x y s
  | .zzTraverse => Sys2Proof.Machine.execZzTraverse s
  | .rawRead n => Sys2Proof.Machine.execRawRead n s
  | .rawRewind => Sys2Proof.Machine.execRawRewind s
  | .rawClear => Sys2Proof.Machine.execRawClear s
  | .rawAppend n => Sys2Proof.Machine.execRawAppend n s
  | .rsCorrect => Sys2Proof.Machine.execRsCorrect s
  | .msgRead n => Sys2Proof.Machine.execMsgRead n s
  | .msgRewind => Sys2Proof.Machine.execMsgRewind s
  | .segMode => Sys2Proof.Machine.execSegMode s
  | .segCount => Sys2Proof.Machine.execSegCount s
  | .segPayload => Sys2Proof.Machine.execSegPayload s
  | .segDecode => Sys2Proof.Machine.execSegDecode s
  | .decodeAll => Sys2Proof.Machine.execDecodeAll s

end Sys2Proof.Machine
end

