-- ==== Sys2Proof/Machine/Engine.lean ====
section
/-! DEFINITION. The two agents of 20_memory.md R75: the engine, which runs the latched command as one atomic step, and
the outside world, whose inputs come one at a time; and which of them moves next. -/

namespace Sys2Proof.Machine

/-- The engine runs the word in CMDL: the decode checks, then the command (30_encoding.md R96). -/
def runCommand (s : State) : Host.Outcome State Fault Refusal :=
  match decode s.cmdl with
  | .ok i => exec i s
  | .error _ => finish (.failed (illegalCommand s) s)

/-- The host polls STATUS once; while BUSY = 1 it goes on polling (30_encoding.md R98). -/
def waitPoll (s : State) : State :=
  if s.busy then { hostRead .word (registerOffset .status) s with events := .wait :: s.events }
  else hostRead .word (registerOffset .status) s

/-- The effect of one input. A change of the module source while BUSY = 1 makes the command's module reads free
(20_memory.md R73). -/
def handleEvent (e : Event) (s : State) : State :=
  match e with
  | .access a => hostAccess a s
  | .wait => waitPoll s
  | .hardReset => resetBlock s
  | .setModules grid => { s with modules := grid, drift := s.drift || s.busy }

/-- The next input takes effect. With none to come the block holds its state (60_exceptions.md R246). -/
def takeInput (s : State) : State :=
  match s.events with
  | [] => s
  | e :: rest => handleEvent e { s with events := rest, lag := s.lag - 1 }

/-- The engine moves when a command is in flight and its latency is over, or nothing else is to come
(70_reset_and_hazards.md R268; log entry 3). -/
def engineMoves (s : State) : Bool := s.busy && (s.lag == 0 || s.events.isEmpty)

end Sys2Proof.Machine
end

