-- ==== Sys2Proof/Machine/Step.lean ====
section
/-! DEFINITION. One step of the block: the engine's command, or the next input. -/

namespace Sys2Proof.Machine

/-- One step (20_memory.md R75): the command in flight as one atomic step, or one input from outside. -/
def step (s : State) : Host.Outcome State Fault Refusal :=
  if engineMoves s then runCommand s else .next (takeInput s)

/-- The state with a word (bits from nbits up 0) just accepted into the command latch and no input before its
completion: the block has no program counter (10_state.md R21), a command runs when the host's CMD write is accepted
(log entry 4). -/
def State.withFetchWord (s : State) (nbits w : Nat) : State :=
  { latchCommand (BitVec.ofNat 32 (w % 2 ^ nbits)) s with lag := 0 }

end Sys2Proof.Machine
end

