-- ==== Sys2Proof/Machine/HostProgram.lean ====
section
/-! DEFINITION. The host's side of 30_encoding.md R97, R98 and 43_segment_decoder.md R203: the pseudo-instructions of a
host program as inputs of the block, and the numeric value the host computes from OUTBUF. -/

namespace Sys2Proof.Machine

/-- `WR reg, v` (30_encoding.md R98). -/
def hostWR (r : Reg) (v : Word) : List Event := [.access (.write .word (registerOffset r) v)]

/-- `RD reg` (30_encoding.md R98). -/
def hostRD (r : Reg) : List Event := [.access (.read .word (registerOffset r))]

/-- A command line given as a word: `WR CMD, word; WAIT` (30_encoding.md R98). -/
def hostWordLine (w : Word) : List Event := hostWR .cmd w ++ [.wait]

/-- A command line (30_encoding.md R98). -/
def hostLine (i : Instr) : List Event := hostWordLine (encode i)

/-- `APPENDW v, n` (30_encoding.md R98). -/
def hostAPPENDW (v : Word) (n : BitVec 6) : List Event := hostWR .wdata v ++ hostLine (.rawAppend n)

/-- `APPEND b` (30_encoding.md R98). -/
def hostAPPEND (b : Byte) : List Event := hostAPPENDW (zext32 b) 8#6

/-- `CLRERR` (30_encoding.md R98). -/
def hostCLRERR : List Event := hostWR .ctrl 0x2#32

/-- `SRST` (30_encoding.md R98). -/
def hostSRST : List Event := hostWR .ctrl 0x1#32

/-- The indicator of a level, the inverse of level(ECL) (41_zigzag_reader.md R136). -/
def levelIndicator : Level → BitVec 2
  | .L => 0b01#2
  | .M => 0b00#2
  | .Q => 0b11#2
  | .H => 0b10#2

/-- FV = lvl·8 + mask (30_encoding.md R97). -/
def formatValue (l : Level) (mask : BitVec 3) : BitVec 5 := (levelIndicator l ++ mask : BitVec 5)

/-- A number in decimal. -/
def decimalText {k : Nat} (v : BitVec k) : String := toString v.toNat

/-- The operands of a command line, in decimal, in the order of R97 (30_encoding.md R97). -/
def operandTexts : Instr → List String
  | .setVersion ver => [decimalText ver]
  | .setSide side => [decimalText side]
  | .setFormat fv => [decimalText fv]
  | .fmtEncode fv => [decimalText fv]
  | .fmtCheck .s1 => ["S1"]
  | .fmtCheck .s2 => ["S2"]
  | .maskEval mid row col => [decimalText mid, decimalText row, decimalText col]
  | .dzQuery x y => [decimalText x, decimalText y]
  | .rawRead n => [decimalText n]
  | .rawAppend n => [decimalText n]
  | .msgRead n => [decimalText n]
  | .nop => []
  | .fmtGather => []
  | .fmtDecode1 => []
  | .fmtDecode2 => []
  | .zzTraverse => []
  | .rawRewind => []
  | .rawClear => []
  | .rsCorrect => []
  | .msgRewind => []
  | .segMode => []
  | .segCount => []
  | .segPayload => []
  | .segDecode => []
  | .decodeAll => []

/-- The assembly line of a command: the mnemonic, then the operands, separated by commas (30_encoding.md R97). -/
def assemblyLine (i : Instr) : String :=
  if operandTexts i = [] then mnemonicOf i else mnemonicOf i ++ " " ++ ", ".intercalate (operandTexts i)

/-- The decimal value of the digits in OUTBUF, a host function (43_segment_decoder.md R203). -/
def numericValue (s : State) : Nat :=
  (bufSlice s.outBuf 0 s.outLen.toNat).foldl (fun v e => 10 * v + (e.toNat - 0x30)) 0

end Sys2Proof.Machine
end

