-- ==== Sys2Proof/Safety.lean ====
section
/-! DEFINITION. What counts as a sound state of the block and as a quiet one, in the terms the statements use: the
invariants the spec's prose gives, and the outcomes of commands. -/

namespace Sys2Proof.Machine

/-- The invariant of the registers and buffers. Each field names the rule it comes from. -/
structure Inv (s : State) : Prop where
  /-- M_VALID ⇒ R_VALID (10_state.md R25). -/
  message_needs_raw : s.mValid = true → s.rValid = true
  /-- R_VALID ⇒ F_VALID (10_state.md R25). -/
  raw_needs_format : s.rValid = true → s.fValid = true
  /-- F_VALID ⇒ V_VALID (10_state.md R25). -/
  format_needs_version : s.fValid = true → s.vValid = true
  /-- SSTATE ≠ IDLE ⇒ M_VALID (10_state.md R25). -/
  segment_needs_message : s.sstate ≠ .idle → s.mValid = true
  /-- VERSION is 1..40 when V_VALID = 1 (10_state.md R28). -/
  version_range : s.vValid = true → 1 ≤ s.version.toNat ∧ s.version.toNat ≤ 40
  /-- SIDE is 17 + 4·VERSION when V_VALID = 1 (10_state.md R28). -/
  side_of_version : s.vValid = true → s.side.toNat = 17 + 4 * s.version.toNat
  /-- VERSION and SIDE are 0 when V_VALID = 0 (10_state.md R28). -/
  no_version : s.vValid = false → s.version = 0#6 ∧ s.side = 0#8
  /-- ECL and MASK_ID are 0 when F_VALID = 0 (10_state.md R28). -/
  no_format : s.fValid = false → s.ecl = 0#2 ∧ s.maskId = 0#3
  /-- ERRCODE and ERRINFO are 0 when ERR = 0 (10_state.md R25, R27). -/
  no_error : s.err = false → s.errCode = .none ∧ s.errInfo = 0#32
  /-- ERR = 1 records a code (60_exceptions.md R230: NONE is never raised). -/
  some_error : s.err = true → s.errCode ≠ .none
  /-- While ERR = 1 no command runs (60_exceptions.md R239). -/
  no_error_in_flight : s.busy = true → s.err = false
  /-- RAW_LEN is 0..RAWBUF_BITS (10_state.md R34). -/
  raw_bound : s.rawLen.toNat ≤ Config.rawbufBits
  /-- RAW_POS is 0..RAW_LEN (10_state.md R35). -/
  raw_cursor : s.rawPos.toNat ≤ s.rawLen.toNat
  /-- No raw stream: both are 0 (10_state.md R49). -/
  no_raw : s.rValid = false → s.rawLen = 0#15 ∧ s.rawPos = 0#15
  /-- MSG_LEN = DATA_CW of the configuration when M_VALID = 1 (42_rs_deinterleaver.md R177 e). -/
  message_length : s.mValid = true → s.msgLen.toNat = dataCw (configuredLayout s)
  /-- MSG_LEN is 0..MSGBUF_BYTES (10_state.md R36). -/
  message_bound : s.msgLen.toNat ≤ Config.msgbufBytes
  /-- MSG_POS is 0..8·MSG_LEN (10_state.md R37). -/
  message_cursor : s.msgPos.toNat ≤ 8 * s.msgLen.toNat
  /-- No message: its registers are 0 (10_state.md R49). -/
  no_message : s.mValid = false → s.msgLen = 0#12 ∧ s.msgPos = 0#15 ∧ s.rsNcorr = 0#16
  /-- No message: the segment registers are 0 (10_state.md R49). -/
  no_segment : s.mValid = false → s.segMode = 0#4 ∧ s.segCount = 0#16 ∧ s.outLen = 0#14
  /-- A mode was read: it is an accepted one (43_segment_decoder.md R193). -/
  mode_accepted : s.sstate ≠ .idle → modeAccepted s.segMode = true
  /-- OUT_LEN is 0..OUTBUF_ENTRIES (10_state.md R41). -/
  output_bound : s.outLen.toNat ≤ Config.outbufEntries
  /-- The buffers have their canonical form. -/
  memory : Memory.wf s = true

/-- M_VALID = 1 means that RS_CORRECT has succeeded on the present RAWBUF under the present configuration
(42_rs_deinterleaver.md R176, corner cases), and MSGBUF and RS_NCORR hold what it found. -/
def MessageIsCorrected (s : State) : Prop :=
  s.mValid = true →
    s.rawLen.toNat = capBits s ∧ padValue s = 0 ∧
    ∃ message corrections,
      correctBlocks (configuredLayout s) (rawBytes s) 0 (blockCount (configuredLayout s)) = .ok (message, corrections) ∧
      s.rsNcorr = BitVec.ofNat 16 corrections ∧
      ∀ k (h : k < message.length), bufRead s.msgBuf k = message[k]

/-- The precondition of each command on the valid bits and SSTATE (30_encoding.md R96; the command's own rule). -/
def precondition (i : Instr) (s : State) : Bool :=
  match i with
  | .nop => true
  | .setVersion _ => true
  | .setSide _ => true
  | .setFormat _ => s.vValid
  | .fmtEncode _ => true
  | .fmtCheck _ => true
  | .fmtGather => s.vValid
  | .fmtDecode1 => true
  | .fmtDecode2 => true
  | .maskEval _ _ _ => true
  | .dzQuery _ _ => s.vValid
  | .zzTraverse => s.vValid && s.fValid
  | .rawRead _ => s.rValid
  | .rawRewind => s.rValid
  | .rawClear => s.vValid && s.fValid
  | .rawAppend _ => s.rValid
  | .rsCorrect => s.rValid
  | .msgRead _ => s.mValid
  | .msgRewind => s.mValid
  | .segMode => s.mValid && s.sstate == .idle
  | .segCount => s.sstate == .modeRead
  | .segPayload => s.sstate == .countRead
  | .segDecode => s.mValid && s.sstate == .idle
  | .decodeAll => s.vValid

/-- The errors a command's own checks raise (60_exceptions.md R230, 44_control.md R221). -/
def ownErrors : Instr → List ErrorCode
  | .nop => []
  | .setVersion _ => [.illegalVersion]
  | .setSide _ => [.illegalVersion]
  | .setFormat _ => []
  | .fmtEncode _ => []
  | .fmtCheck _ => []
  | .fmtGather => []
  | .fmtDecode1 => [.formatCorrupt]
  | .fmtDecode2 => [.formatCorrupt]
  | .maskEval _ _ _ => []
  | .dzQuery _ _ => [.illegalCommand]
  | .zzTraverse => []
  | .rawRead _ => [.endOfData]
  | .rawRewind => []
  | .rawClear => []
  | .rawAppend _ => [.bufferFull]
  | .rsCorrect => [.lengthMismatch, .dataCorruptPad, .dataCorruptRs]
  | .msgRead _ => [.endOfData]
  | .msgRewind => []
  | .segMode => [.endOfData, .unsupported, .illegalMode]
  | .segCount => [.endOfData]
  | .segPayload => [.endOfData, .illegalValue]
  | .segDecode => [.endOfData, .unsupported, .illegalMode, .illegalValue]
  | .decodeAll =>
    [.formatCorrupt, .lengthMismatch, .dataCorruptPad, .dataCorruptRs, .endOfData, .unsupported, .illegalMode,
     .illegalValue]

/-- The raw stream of the symbol the module source holds, under a mask (41_zigzag_reader.md R142). -/
def symbolBits (g : Grid) (v : Nat) (mask : BitVec 3) : List Bool :=
  (order v).map fun p => xor (gridBit g p.1 p.2) (maskBit mask p.2 p.1)

/-- The whole bytes of a bit list, most significant bit first (42_rs_deinterleaver.md R175). -/
def bytesOf (n : Nat) (bits : List Bool) : List Byte :=
  (List.range n).map fun k => BitVec.ofNat 8 (bitsNat ((bits.drop (8 * k)).take 8))

/-- The data parts of the blocks of an interleaved stream, joined in block order (42_rs_deinterleaver.md R176). -/
def dataOf (lay : BlockLayout) (stream : List Byte) : List Byte :=
  (List.range (blockCount lay)).flatMap fun b => (blockOf lay stream b).take (blockData lay b)

/-- The n bits from bit position pos on of a byte list, as a number, first bit most significant
(43_segment_decoder.md R190). -/
def bitsAt (bytes : List Byte) (pos n : Nat) : Nat :=
  bitsNat ((List.range n).map fun k => (bytes.getD ((pos + k) / 8) 0#8).getLsbD (7 - (pos + k) % 8))

/-- Run commands in order and stop after the first one that leaves ERR = 1, as a host that checks ERR after each line
does (44_control.md R224). -/
def runUntilError : List Instr → State → Host.Outcome State Fault Refusal
  | [], s => .next s
  | i :: rest, s =>
    match exec i s with
    | .next t => if t.err then .next t else runUntilError rest t
    | .fault r => .fault r
    | .refused r => .refused r

/-- No command is in flight and no error is recorded: a CMD write is accepted (60_exceptions.md R232). -/
abbrev acceptsCommands (s : State) : Prop := s.busy = false ∧ s.err = false

end Sys2Proof.Machine
end

