-- ==== Sys2Proof/Certificates/Slice0/Obligations.lean ====
section
/-! DEFINITION. The statements for the provers. Each docstring names the rules of spec/ it formalises. -/

open Sys2Proof Sys2Proof.Machine

/-! Encoding. -/

/-- Decoding the word of a well-formed command gives the command back, every operand at every value its field admits
(30_encoding.md R90-R94). -/
def Obligations.DecodeOfEncode : Prop :=
  ∀ i : Instr, i.wf = true → decode (encode i) = .ok i

/-- A word that decodes is the word of the command it decodes to, and the command is well formed: every word has at
most one meaning and no legal word has a stray bit (30_encoding.md R91, R93, R94). -/
def Obligations.EncodeOfDecode : Prop :=
  ∀ (w : Word) (i : Instr), decode w = .ok i → i.wf = true ∧ encode i = w

/-- The decoder is the opcode map: a word decodes exactly when it matches a row of the map and, in format W, its count
is at most 32, and then to a command of that row (30_encoding.md R93, R94). -/
def Obligations.DecodeIsTheOpcodeMap : Prop :=
  ∀ w : Word,
    (∀ i, decode w = .ok i →
      ∃ row ∈ opcodeRows, row.mnemonic = mnemonicOf i ∧ w &&& row.mask = row.pattern ∧
        (row.counted = true → (w.extractLsb' 0 6).toNat ≤ 32)) ∧
    (∀ row ∈ opcodeRows, w &&& row.mask = row.pattern →
      (row.counted = true → (w.extractLsb' 0 6).toNat ≤ 32) →
      ∃ i, decode w = .ok i ∧ row.mnemonic = mnemonicOf i)

/-- The words the spec writes out decode to the commands it writes beside them (30_encoding.md R97,
41_zigzag_reader.md R130, R143). -/
def Obligations.SpecWordsDecode : Prop :=
  decode 0x00000000#32 = .ok .nop ∧
  decode 0x01000002#32 = .ok (.setVersion 2#6) ∧
  decode 0x02000019#32 = .ok (.setSide 25#8) ∧
  decode 0x0300001A#32 = .ok (.setFormat 0b11010#5) ∧
  decode 0x10000008#32 = .ok (.fmtEncode 8#5) ∧
  decode 0x11000001#32 = .ok (.fmtCheck .s2) ∧
  decode 0x20600102#32 = .ok (.maskEval 3#3 1#8 2#8) ∧
  decode 0x21000D08#32 = .ok (.dzQuery 8#8 13#8) ∧
  decode 0x30000008#32 = .ok (.rawRead 8#6) ∧
  decode 0x40000000#32 = .ok .rsCorrect

/-- A word in the command latch that matches no row of the opcode map, or whose W-format count is above 32, raises
ILLEGAL_COMMAND with the word in ERRINFO and has no other effect (30_encoding.md R94, R96; 60_exceptions.md R233). -/
def Obligations.IllegalWordRaises : Prop :=
  ∀ s : State, s.busy = true → s.lag = 0 →
    (∀ row ∈ opcodeRows, s.cmdl &&& row.mask = row.pattern →
      row.counted = true ∧ 32 < (s.cmdl.extractLsb' 0 6).toNat) →
    step s = .next { s with err := true, errCode := .illegalCommand, errInfo := s.cmdl, busy := false }

/-! The step. -/

/-- A step with a command in flight and no input due before it runs the command the latch decodes to; a state with a
fetch word runs that word next; with no command in flight a step takes the next input, and with none it holds the
state (20_memory.md R75; 60_exceptions.md R232, R246; log entries 3 and 4 for the inputs and their order). -/
def Obligations.StepRunsTheLatchedCommand : Prop :=
  (∀ (s : State) (i : Instr), s.busy = true → (s.lag = 0 ∨ s.events = []) → decode s.cmdl = .ok i →
    step s = exec i s) ∧
  (∀ (s : State) (w : Word) (i : Instr), decode w = .ok i →
    step (s.withFetchWord 32 w.toNat) =
      exec i { s with cmdl := w, busy := true, drift := false, draws := s.draws + 1, lag := 0 }) ∧
  (∀ (s : State) (e : Event) (rest : List Event), s.events = e :: rest → (s.busy = false ∨ s.lag ≠ 0) →
    step s = .next (handleEvent e { s with events := rest, lag := s.lag - 1 })) ∧
  (∀ s : State, s.busy = false → s.events = [] → step s = .next s)

/-- A CMD write that is accepted runs its command in the next step when no input lands before its completion
(10_state.md R24; 60_exceptions.md R232; log entry 3). -/
def Obligations.HostWriteRunsItsCommand : Prop :=
  ∀ (s : State) (i : Instr) (rest : List Event), i.wf = true → s.busy = false → s.err = false →
    s.latencies.headD 0 = 0 → s.events = .access (.write .word 0x008#15 (encode i)) :: rest →
    core.run 2 s =
      exec i { s with
        events := rest, cmdl := encode i, busy := true, drift := false, draws := s.draws + 1, lag := 0,
        latencies := s.latencies.tail, reply := .written }

/-- A command in flight completes, or is abandoned by a reset, within its latency: at the latest one step after the
inputs that land before it (70_reset_and_hazards.md R268; log entry 3). -/
def Obligations.CommandEndsWithinItsLag : Prop :=
  ∀ s : State, s.busy = true → ∃ k ≤ s.lag + 1, ∃ t : State, core.run k s = .next t ∧ t.busy = false

/-! Control and configuration. -/

/-- NOP, RAW_REWIND, RAW_CLEAR and MSG_REWIND complete with exactly the writes their rules give (44_control.md R220,
41_zigzag_reader.md R147, R144; 43_segment_decoder.md R191). -/
def Obligations.NopAndRewinds : Prop :=
  (∀ s : State, exec .nop s = .next { s with busy := false }) ∧
  (∀ s : State, s.rValid = true → exec .rawRewind s = .next { s with rawPos := 0#15, busy := false }) ∧
  (∀ s : State, s.vValid = true → s.fValid = true →
    exec .rawClear s = .next { s with
      rawLen := 0#15, rawPos := 0#15, rValid := true, mValid := false, msgLen := 0#12, msgPos := 0#15,
      rsNcorr := 0#16, sstate := .idle, segMode := 0#4, segCount := 0#16, outLen := 0#14, busy := false }) ∧
  (∀ s : State, s.mValid = true →
    exec .msgRewind s = .next { s with
      msgPos := 0#15, sstate := .idle, segMode := 0#4, segCount := 0#16, outLen := 0#14, busy := false })

/-- SET_VERSION of a version 1..40 configures VERSION and SIDE = 17 + 4·VER and clears everything downstream; of any
other it raises ILLEGAL_VERSION with the version in ERRINFO and changes nothing (41_zigzag_reader.md R130). -/
def Obligations.SetVersionConfigures : Prop :=
  ∀ (ver : BitVec 6) (s : State),
    (1 ≤ ver.toNat ∧ ver.toNat ≤ 40 →
      exec (.setVersion ver) s = .next { s with
        version := ver, side := BitVec.ofNat 8 (17 + 4 * ver.toNat), vValid := true, fValid := false, ecl := 0#2,
        maskId := 0#3, rValid := false, rawLen := 0#15, rawPos := 0#15, mValid := false, msgLen := 0#12,
        msgPos := 0#15, rsNcorr := 0#16, sstate := .idle, segMode := 0#4, segCount := 0#16, outLen := 0#14,
        busy := false }) ∧
    (ver.toNat = 0 ∨ 40 < ver.toNat →
      exec (.setVersion ver) s = .next { s with
        err := true, errCode := .illegalVersion, errInfo := ver.setWidth 32, busy := false })

/-- SET_SIDE of 17 + 4·v modules, v in 1..40, is SET_VERSION v and completes; a side that is no 17 + 4·v raises
ILLEGAL_VERSION with the side in ERRINFO and changes nothing (41_zigzag_reader.md R131). -/
def Obligations.SetSideIsSetVersion : Prop :=
  (∀ (v : Nat) (s : State), 1 ≤ v → v ≤ 40 →
    exec (.setSide (BitVec.ofNat 8 (17 + 4 * v))) s = exec (.setVersion (BitVec.ofNat 6 v)) s ∧
    ∃ t, exec (.setSide (BitVec.ofNat 8 (17 + 4 * v))) s = .next t ∧ t.vValid = true ∧ t.version.toNat = v ∧
      t.side.toNat = 17 + 4 * v ∧ t.err = s.err) ∧
  (∀ (side : BitVec 8) (s : State), (∀ v, 1 ≤ v → v ≤ 40 → side.toNat ≠ 17 + 4 * v) →
    exec (.setSide side) s = .next { s with
      err := true, errCode := .illegalVersion, errInfo := side.setWidth 32, busy := false })

/-- SET_FORMAT with a version configured writes the level indicator FV[4:3], the mask id FV[2:0] and F_VALID, and
clears the raw stream and everything after it; PSTATE is then 2 (41_zigzag_reader.md R132; 40_format_codec.md R118). -/
def Obligations.SetFormatApplies : Prop :=
  ∀ (fv : BitVec 5) (s : State), s.vValid = true →
    ∃ t, exec (.setFormat fv) s = .next t ∧ pstate t = 2#3 ∧
      t = { s with
        ecl := fv.extractLsb' 3 2, maskId := fv.extractLsb' 0 3, fValid := true, rValid := false, rawLen := 0#15,
        rawPos := 0#15, mValid := false, msgLen := 0#12, msgPos := 0#15, rsNcorr := 0#16, sstate := .idle,
        segMode := 0#4, segCount := 0#16, outLen := 0#14, busy := false }

/-- The four clearing procedures of 10_state.md R49, each written out; none touches FMT_RESULT, RDATA, WDATA, FMT_S1 or
FMT_S2. -/
def Obligations.ClearingCascades : Prop :=
  ∀ s : State,
    clearSeg s = { s with sstate := .idle, segMode := 0#4, segCount := 0#16, outLen := 0#14 } ∧
    clearMsg s = clearSeg { s with mValid := false, msgLen := 0#12, msgPos := 0#15, rsNcorr := 0#16 } ∧
    clearRaw s = clearMsg { s with rValid := false, rawLen := 0#15, rawPos := 0#15 } ∧
    clearFmt s = clearRaw { s with fValid := false, ecl := 0#2, maskId := 0#3 } ∧
    (∀ clear ∈ [clearSeg, clearMsg, clearRaw, clearFmt],
      (clear s).fmtResult = s.fmtResult ∧ (clear s).rdata = s.rdata ∧ (clear s).wdata = s.wdata ∧
      (clear s).fmtS1 = s.fmtS1 ∧ (clear s).fmtS2 = s.fmtS2)

/-! The format codec. -/

/-- FMT_ENCODE writes {0, c ^ FMT_MASK, 0, c} where c has the value in its top five bits and is a multiple of the
generator 0x537 over GF(2), and nothing else but BUSY (40_format_codec.md R110, R111). -/
def Obligations.FmtEncodeResult : Prop :=
  ∀ (fv : BitVec 5) (s : State), ∃ (c : BitVec 15) (q : BitVec 5),
    exec (.fmtEncode fv) s = .next { s with
      fmtResult := (0#1 ++ (c ^^^ 0x5412#15) ++ 0#1 ++ c : BitVec 32), busy := false } ∧
    c.extractLsb' 10 5 = fv ∧
    c = [0, 1, 2, 3, 4].foldl (fun acc i => if q.getLsbD i then acc ^^^ (0x537#15 <<< i) else acc) 0#15

/-- FMT_CHECK writes the BCH remainder of the selected sample: what the sample's low ten bits differ by from the
codeword of its top five; it is 0 exactly for the 32 codewords (40_format_codec.md R110, R112). -/
def Obligations.FmtCheckRemainder : Prop :=
  ∀ (sel : Sample) (s : State) (w : BitVec 15), w = (match sel with | .s1 => s.fmtS1 | .s2 => s.fmtS2) →
    ∃ t, exec (.fmtCheck sel) s = .next t ∧
      t = { s with fmtResult := (w ^^^ fmtCw (w.extractLsb' 10 5)).setWidth 32, busy := false } ∧
      (t.fmtResult = 0#32 ↔ ∃ d : BitVec 5, w = fmtCw d)

/-- FMT_GATHER writes FMT_S1 and FMT_S2 only; bit 14 - k of each is the module at the k-th position of its row of the
position table, negative coordinates counted from SIDE, with the mask constant removed. With the module source changed
while BUSY the bits are free (40_format_codec.md R116, R117; 20_memory.md R73; log entries 6 and 7). -/
def Obligations.FmtGatherReadsTheSamples : Prop :=
  ∀ s : State, s.vValid = true → 21 ≤ s.side.toNat →
    ∃ a b : BitVec 15, exec .fmtGather s = .next { s with fmtS1 := a, fmtS2 := b, busy := false } ∧
      (s.drift = false → ∀ k < 15,
        a.getLsbD (14 - k) = xor (gridBit s.modules ([0, 1, 2, 3, 4, 5, 7, 8, 8, 8, 8, 8, 8, 8, 8].getD k 0)
          ([8, 8, 8, 8, 8, 8, 8, 8, 7, 5, 4, 3, 2, 1, 0].getD k 0)) ((0x5412#15).getLsbD (14 - k)) ∧
        b.getLsbD (14 - k) = xor
          (if k < 7 then gridBit s.modules 8 (s.side.toNat - 1 - k) else gridBit s.modules (s.side.toNat - 15 + k) 8)
          ((0x5412#15).getLsbD (14 - k)))

/-- FMT_DECODE1 recovers the value of a sample with at most three flipped bits, reports how many were flipped, and
applies the format when a version is configured (40_format_codec.md R113, R114, R118). -/
def Obligations.FmtDecode1Corrects : Prop :=
  ∀ (s : State) (d : BitVec 5) (e : BitVec 15), popcount e ≤ 3 → s.fmtS1 = fmtCw d ^^^ e →
    ∃ r : Word, r = (0#18 ++ BitVec.ofNat 6 (popcount e) ++ 0#3 ++ d : BitVec 32) ∧
      (s.vValid = false → exec .fmtDecode1 s = .next { s with fmtResult := r, busy := false }) ∧
      (s.vValid = true → exec .fmtDecode1 s = .next { s with
        fmtResult := r, ecl := d.extractLsb' 3 2, maskId := d.extractLsb' 0 3, fValid := true, rValid := false,
        rawLen := 0#15, rawPos := 0#15, mValid := false, msgLen := 0#12, msgPos := 0#15, rsNcorr := 0#16,
        sstate := .idle, segMode := 0#4, segCount := 0#16, outLen := 0#14, busy := false })

/-- FMT_DECODE1 refuses a sample more than three bits from every codeword: the nearest distance is then 4 or 5 and
always tied, so ERRINFO is 0x304 or 0x305, and nothing but the error record changes (40_format_codec.md R113, R114,
R119 b and d). -/
def Obligations.FmtDecode1Refuses : Prop :=
  ∀ s : State, (∀ d : BitVec 5, 3 < popcount (fmtCw d ^^^ s.fmtS1)) →
    ∃ m, (m = 4 ∨ m = 5) ∧ (∃ d : BitVec 5, popcount (fmtCw d ^^^ s.fmtS1) = m) ∧
      (∀ d : BitVec 5, m ≤ popcount (fmtCw d ^^^ s.fmtS1)) ∧
      exec .fmtDecode1 s = .next { s with
        err := true, errCode := .formatCorrupt, errInfo := BitVec.ofNat 32 (0x300 + m), busy := false }

/-- FMT_DECODE2 recovers the value of two samples with at most six flipped bits between them, reports how many were
flipped, and applies the format when a version is configured (40_format_codec.md R113, R115, R118). -/
def Obligations.FmtDecode2Corrects : Prop :=
  ∀ (s : State) (d : BitVec 5) (e1 e2 : BitVec 15), popcount e1 + popcount e2 ≤ 6 →
    s.fmtS1 = fmtCw d ^^^ e1 → s.fmtS2 = fmtCw d ^^^ e2 →
    ∃ r : Word, r = (0#18 ++ BitVec.ofNat 6 (popcount e1 + popcount e2) ++ 0#3 ++ d : BitVec 32) ∧
      (s.vValid = false → exec .fmtDecode2 s = .next { s with fmtResult := r, busy := false }) ∧
      (s.vValid = true → exec .fmtDecode2 s = .next { s with
        fmtResult := r, ecl := d.extractLsb' 3 2, maskId := d.extractLsb' 0 3, fValid := true, rValid := false,
        rawLen := 0#15, rawPos := 0#15, mValid := false, msgLen := 0#12, msgPos := 0#15, rsNcorr := 0#16,
        sstate := .idle, segMode := 0#4, segCount := 0#16, outLen := 0#14, busy := false })

/-- FMT_DECODE2 refuses two samples more than six bits in sum from every codeword: ERRINFO has the over-budget bit 9, the
tie bit 8 exactly when two values attain the least distance, that distance in [5:0], and zeros elsewhere. Two different
codewords are refused with both bits set and their distance. Nothing but the error record changes (40_format_codec.md
R113, R115). -/
def Obligations.FmtDecode2Refuses : Prop :=
  (∀ (s : State) (dist : BitVec 5 → Nat) (m : Nat) (tie : Bool),
    (∀ d, dist d = popcount (fmtCw d ^^^ s.fmtS1) + popcount (fmtCw d ^^^ s.fmtS2)) → 6 < m →
    (∀ d, m ≤ dist d) → (∃ d, dist d = m) → (tie = true ↔ ∃ d1 d2, d1 ≠ d2 ∧ dist d1 = m ∧ dist d2 = m) →
    exec .fmtDecode2 s = .next { s with
      err := true, errCode := .formatCorrupt, errInfo := BitVec.ofNat 32 ((if tie then 0x300 else 0x200) + m),
      busy := false }) ∧
  (∀ (s : State) (d1 d2 : BitVec 5), d1 ≠ d2 → s.fmtS1 = fmtCw d1 → s.fmtS2 = fmtCw d2 →
    exec .fmtDecode2 s = .next { s with
      err := true, errCode := .formatCorrupt,
      errInfo := BitVec.ofNat 32 (0x300 + popcount (fmtCw d1 ^^^ fmtCw d2)), busy := false })

/-! Geometry. -/

/-- MASK_EVAL writes 1 to RDATA when the formula of the mask holds at the row and column, else 0, and nothing else but
BUSY (41_zigzag_reader.md R137, R138). -/
def Obligations.MaskEvalFormulas : Prop :=
  ∀ (mid : BitVec 3) (row col : BitVec 8) (s : State) (i j : Nat), i = row.toNat → j = col.toNat →
    ∃ r : Word, exec (.maskEval mid row col) s = .next { s with rdata := r, busy := false } ∧
      (r = 0#32 ∨ r = 1#32) ∧
      (mid = 0#3 → (r = 1#32 ↔ (i + j) % 2 = 0)) ∧
      (mid = 1#3 → (r = 1#32 ↔ i % 2 = 0)) ∧
      (mid = 2#3 → (r = 1#32 ↔ j % 3 = 0)) ∧
      (mid = 3#3 → (r = 1#32 ↔ (i + j) % 3 = 0)) ∧
      (mid = 4#3 → (r = 1#32 ↔ (i / 2 + j / 3) % 2 = 0)) ∧
      (mid = 5#3 → (r = 1#32 ↔ (i * j) % 2 + (i * j) % 3 = 0)) ∧
      (mid = 6#3 → (r = 1#32 ↔ ((i * j) % 2 + (i * j) % 3) % 2 = 0)) ∧
      (mid = 7#3 → (r = 1#32 ↔ ((i + j) % 2 + (i * j) % 3) % 2 = 0))

/-- The reserved zones of every version are the rectangles of R140's table, in its order, with its kind numbers: zones 1
to 8, then the 5×5 square of each alignment centre of P × P, cy outer, cx inner, kept when it overlaps none of zones 1
to 4. DZ_QUERY inside the symbol writes the kind of the first of them that holds the module, with bit 0 set, or 0 when
none does, and nothing else but BUSY; outside the symbol it raises ILLEGAL_COMMAND with the word
(41_zigzag_reader.md R140, R143). -/
def Obligations.DzQueryFirstZone : Prop :=
  ∀ (v side : Nat) (fixed : List (Nat × Nat × Nat × Nat × Nat)) (squares zones : List (Nat × Nat × Nat × Nat × Nat)),
    1 ≤ v → v ≤ 40 → side = 17 + 4 * v →
    fixed = [(1, 0, 0, 8, 8), (2, side - 8, 0, side - 1, 7), (3, side - 8, 8, side - 1, 8),
      (4, 0, side - 8, 8, side - 1)] →
    squares = ((alignPos v).flatMap fun cy => (alignPos v).map fun cx => (9, cx - 2, cy - 2, cx + 2, cy + 2)) →
    zones = fixed ++ [(5, 0, 6, side - 1, 6), (6, 6, 0, 6, side - 1)] ++
      (if 7 ≤ v then [(7, side - 11, 0, side - 9, 5), (8, 0, side - 11, 5, side - 9)] else []) ++
      squares.filter (fun (_, a0, b0, a1, b1) => fixed.all fun (_, x0, y0, x1, y1) =>
        !(decide (a0 ≤ x1 ∧ x0 ≤ a1 ∧ b0 ≤ y1 ∧ y0 ≤ b1))) →
    (zonesOf v).map (fun z => ((zoneCode z.kind).toNat, z.x0, z.y0, z.x1, z.y1)) = zones ∧
    ∀ (x y : BitVec 8) (s : State), s.vValid = true → s.version.toNat = v → s.side.toNat = side →
      (x.toNat < side ∧ y.toNat < side →
        ∃ r : Word, exec (.dzQuery x y) s = .next { s with rdata := r, busy := false } ∧
          ((r = 0#32 ∧ ∀ z ∈ zones,
              ¬ (z.2.1 ≤ x.toNat ∧ x.toNat ≤ z.2.2.2.1 ∧ z.2.2.1 ≤ y.toNat ∧ y.toNat ≤ z.2.2.2.2)) ∨
           (∃ before kind x0 y0 x1 y1 after, zones = before ++ (kind, x0, y0, x1, y1) :: after ∧
              (x0 ≤ x.toNat ∧ x.toNat ≤ x1 ∧ y0 ≤ y.toNat ∧ y.toNat ≤ y1) ∧
              (∀ z ∈ before,
                ¬ (z.2.1 ≤ x.toNat ∧ x.toNat ≤ z.2.2.2.1 ∧ z.2.2.1 ≤ y.toNat ∧ y.toNat ≤ z.2.2.2.2)) ∧
              r = BitVec.ofNat 32 (16 * kind + 1)))) ∧
      (side ≤ x.toNat ∨ side ≤ y.toNat →
        exec (.dzQuery x y) s = .next { s with
          err := true, errCode := .illegalCommand, errInfo := s.cmdl, busy := false })

/-- The zig-zag order of every version is the boustrophedon of R141 with the reserved modules left out: pairs of columns
from right to left, the timing column stepped over; the first pair from the bottom row up, the direction turned after
each pair; in each row the right column before the left. It visits each module that no reserved zone holds exactly
once, and no other (41_zigzag_reader.md R140, R141; the zones are those DzQueryFirstZone writes out). -/
def Obligations.TraversalVisitsEachModuleOnce : Prop :=
  ∀ (v side : Nat) (right : Nat → Nat) (row : Nat → Nat → Nat), 1 ≤ v → v ≤ 40 → side = 17 + 4 * v →
    (∀ pair, right pair = if side - 1 - 2 * pair ≤ 6 then side - 2 - 2 * pair else side - 1 - 2 * pair) →
    (∀ pair i, row pair i = if pair % 2 = 0 then side - 1 - i else i) →
    order v = ((List.range ((side - 1) / 2)).flatMap fun pair => (List.range side).flatMap fun i =>
      [(right pair, row pair i), (right pair - 1, row pair i)]).filter
        (fun p => (zonesOf v).all fun z => !inZone p.1 p.2 z) ∧
    (order v).Nodup ∧
    ∀ x y, (x, y) ∈ order v ↔ x < side ∧ y < side ∧ ∀ z ∈ zonesOf v, inZone x y z = false

/-- Three counts of every version agree: the modules of the traversal, the capacity 8·TOTAL_CW + REM_BITS with the
remainder bits of R171, and, for each of the four levels of the block-layout table, TOTAL_CW = DATA_CW + B·E. So
RAW_LEN = CAP_BITS after ZZ_TRAVERSE and RAWBUF never overflows (41_zigzag_reader.md R141, R142, R148;
42_rs_deinterleaver.md R170, R171, R172; 10_state.md R34). -/
def Obligations.TraversalFillsTheCapacity : Prop :=
  (∀ v, 1 ≤ v → v ≤ 40 →
    (order v).length = capBitsOf v ∧
    capBitsOf v = 8 * totalCw v + (if v = 1 then 0 else if v ≤ 6 then 7 else if v ≤ 13 then 0 else if v ≤ 20 then 3
      else if v ≤ 27 then 4 else if v ≤ 34 then 3 else 0) ∧
    ∀ l lay, lay = layoutOf v l →
      totalCw v = (lay.b1 * lay.d1 + lay.b2 * (lay.d1 + 1)) + (lay.b1 + lay.b2) * lay.ec) ∧
  (∀ s : State, s.vValid = true → s.fValid = true → 1 ≤ s.version.toNat → s.version.toNat ≤ 40 →
    ∃ t, exec .zzTraverse s = .next t ∧ t.rawLen.toNat = capBits t ∧ t.rawLen.toNat ≤ 29648)

/-- ZZ_TRAVERSE stores at entry k the module at the k-th place of the zig-zag order XOR the mask bit of its row and
column, sets RAW_LEN, RAW_POS and R_VALID, clears the message and everything after it, and writes nothing else. With the
module source changed while BUSY the stored bits are free (41_zigzag_reader.md R142; 20_memory.md R73; log entries 6 and
7). -/
def Obligations.ZzTraverseFillsRawbuf : Prop :=
  ∀ s : State, s.vValid = true → s.fValid = true →
    ∃ b : Buf Bool,
      exec .zzTraverse s = .next { s with
        rawBuf := b, rawLen := BitVec.ofNat 15 (order s.version.toNat).length, rawPos := 0#15, rValid := true,
        mValid := false, msgLen := 0#12, msgPos := 0#15, rsNcorr := 0#16, sstate := .idle, segMode := 0#4,
        segCount := 0#16, outLen := 0#14, busy := false } ∧
      (∀ k, (order s.version.toNat).length ≤ k → bufRead b k = bufRead s.rawBuf k) ∧
      (s.drift = false → ∀ (k x y : Nat), (order s.version.toNat)[k]? = some (x, y) →
        bufRead b k = xor (gridBit s.modules x y) (maskBit s.maskId y x))

/-! The raw stream. -/

/-- RAW_APPEND of n bits that fit stores WDATA[n-1] to WDATA[0] from entry RAW_LEN on, advances RAW_LEN, clears the
message and everything after it, and writes no other entry and no other register; of n bits that do not fit it raises
BUFFER_FULL with RAW_LEN and changes nothing (41_zigzag_reader.md R145). -/
def Obligations.RawAppendStores : Prop :=
  ∀ (n : BitVec 6) (s : State), n.toNat ≤ 32 → s.rValid = true →
    (s.rawLen.toNat + n.toNat ≤ 29648 →
      ∃ b : Buf Bool,
        exec (.rawAppend n) s = .next { s with
          rawBuf := b, rawLen := BitVec.ofNat 15 (s.rawLen.toNat + n.toNat), mValid := false, msgLen := 0#12,
          msgPos := 0#15, rsNcorr := 0#16, sstate := .idle, segMode := 0#4, segCount := 0#16, outLen := 0#14,
          busy := false } ∧
        (∀ k < n.toNat, bufRead b (s.rawLen.toNat + k) = s.wdata.getLsbD (n.toNat - 1 - k)) ∧
        (∀ k, k < s.rawLen.toNat ∨ s.rawLen.toNat + n.toNat ≤ k → bufRead b k = bufRead s.rawBuf k)) ∧
    (29648 < s.rawLen.toNat + n.toNat →
      exec (.rawAppend n) s = .next { s with
        err := true, errCode := .bufferFull, errInfo := s.rawLen.setWidth 32, busy := false })

/-- RAW_READ of n bits below RAW_LEN writes them to RDATA, the first bit read as bit n-1, zeros above, and advances
RAW_POS; past RAW_LEN it raises END_OF_DATA with n and changes nothing (41_zigzag_reader.md R146). -/
def Obligations.RawReadReturnsTheBits : Prop :=
  ∀ (n : BitVec 6) (s : State), n.toNat ≤ 32 → s.rValid = true →
    (s.rawPos.toNat + n.toNat ≤ s.rawLen.toNat →
      ∃ r : Word,
        exec (.rawRead n) s = .next { s with
          rdata := r, rawPos := BitVec.ofNat 15 (s.rawPos.toNat + n.toNat), busy := false } ∧
        (∀ k < n.toNat, r.getLsbD (n.toNat - 1 - k) = bufRead s.rawBuf (s.rawPos.toNat + k)) ∧
        (∀ k, n.toNat ≤ k → r.getLsbD k = false)) ∧
    (s.rawLen.toNat < s.rawPos.toNat + n.toNat →
      exec (.rawRead n) s = .next { s with
        err := true, errCode := .endOfData, errInfo := n.setWidth 32, busy := false })

/-- Bits appended at the cursor read back as the low n bits of WDATA, and the cursor is then at the end of the stream
(41_zigzag_reader.md R145, R146). -/
def Obligations.AppendedBitsReadBack : Prop :=
  ∀ (n : BitVec 6) (s : State), n.toNat ≤ 32 → s.rValid = true → s.rawPos = s.rawLen →
    s.rawLen.toNat + n.toNat ≤ 29648 →
    ∃ t u, exec (.rawAppend n) s = .next t ∧ exec (.rawRead n) t = .next u ∧
      u.rdata.toNat = s.wdata.toNat % 2 ^ n.toNat ∧ u.rawPos = u.rawLen ∧
      u.rawLen.toNat = s.rawLen.toNat + n.toNat ∧ u.err = s.err

/-! The Reed-Solomon decoder. -/

/-- The block decoder answers a word and a count exactly when the word is a codeword of the block's length at that
Hamming distance, at most floor(E/2), from the received block; so it fails exactly when no such codeword exists
(42_rs_deinterleaver.md R174). The completeness half rests on the algorithm of log entry 11. -/
def Obligations.RsDecodeMeetsItsRule : Prop :=
  ∀ (ec : Nat) (r : List Byte), ec ≤ r.length → r.length ≤ 255 →
    (∀ (c : List Byte) (k : Nat), rsDecode ec r = some (c, k) ↔
      c.length = r.length ∧ isCodeword ec c = true ∧ hammingDistance r c = k ∧ k ≤ ec / 2) ∧
    (rsDecode ec r = none ↔
      ¬ ∃ c : List Byte, c.length = r.length ∧ isCodeword ec c = true ∧ hammingDistance r c ≤ ec / 2)

/-- The block decoder never returns a word that is no codeword, changes at most floor(E/2) bytes, and reports how many
it changed (42_rs_deinterleaver.md R174). -/
def Obligations.RsDecodeIsSound : Prop :=
  ∀ (ec : Nat) (r c : List Byte) (k : Nat), rsDecode ec r = some (c, k) →
    c.length = r.length ∧ isCodeword ec c = true ∧ k ≤ ec / 2 ∧
    k = ((r.zip c).filter fun p => p.1 != p.2).length

/-- Two different codewords of one length differ in more than E bytes: the code's minimum distance is at least E + 1
(42_rs_deinterleaver.md R173). -/
def Obligations.CodewordsAreFarApart : Prop :=
  ∀ (ec : Nat) (b c : List Byte), b.length = c.length → b.length ≤ 255 → isCodeword ec b = true →
    isCodeword ec c = true → b ≠ c → ec < hammingDistance b c

/-- De-interleaving deals the stream out column by column: where each data and EC byte of each block stands in the
stream, for every block layout (42_rs_deinterleaver.md R175). -/
def Obligations.DeinterleavePositions : Prop :=
  ∀ (lay : BlockLayout) (stream : List Byte) (b : Nat), stream.length = dataCw lay + lay.ec * blockCount lay →
    b < blockCount lay →
    (blockOf lay stream b).length = blockData lay b + lay.ec ∧
    (∀ j < lay.d1, (blockOf lay stream b)[j]? = stream[j * blockCount lay + b]?) ∧
    (lay.b1 ≤ b → (blockOf lay stream b)[lay.d1]? = stream[lay.d1 * blockCount lay + (b - lay.b1)]?) ∧
    (∀ j < lay.ec, (blockOf lay stream b)[blockData lay b + j]? = stream[dataCw lay + j * blockCount lay + b]?)

/-- RS_CORRECT on a stream of the right length with zero remainder bits, when every block decodes, stores the data parts
of the decoded blocks in block order and the sum of their corrections in RS_NCORR, and writes no other entry and no other
register. When every block is a codeword already, the bytes stored are those of the stream, each at its place, and
RS_NCORR is 0 (42_rs_deinterleaver.md R175, R176, R177 c and e). -/
def Obligations.RsCorrectStoresTheMessage : Prop :=
  ∀ (s : State) (lay : BlockLayout) (place : Nat → Nat → Nat), lay = configuredLayout s →
    (∀ b j, place b j = (if b < lay.b1 then b * lay.d1 else lay.b1 * lay.d1 + (b - lay.b1) * (lay.d1 + 1)) + j) →
    s.rValid = true → s.rawLen.toNat = capBits s → padValue s = 0 →
    (∀ (block : Nat → List Byte) (changed : Nat → Nat),
      (∀ b < blockCount lay, rsDecode lay.ec (blockOf lay (rawBytes s) b) = some (block b, changed b)) →
      ∃ m : List Host.Cell,
        exec .rsCorrect s = .next { s with
          msgBuf := m, msgLen := BitVec.ofNat 12 (dataCw lay), msgPos := 0#15,
          rsNcorr := BitVec.ofNat 16 ((List.range (blockCount lay)).map changed).sum, mValid := true,
          sstate := .idle, segMode := 0#4, segCount := 0#16, outLen := 0#14, busy := false } ∧
        (∀ b < blockCount lay, ∀ j < blockData lay b, bufRead m (place b j) = (block b).getD j 0#8) ∧
        (∀ k, dataCw lay ≤ k → bufRead m k = bufRead s.msgBuf k)) ∧
    ((∀ b < blockCount lay, isCodeword lay.ec (blockOf lay (rawBytes s) b) = true) →
      ∃ m : List Host.Cell,
        exec .rsCorrect s = .next { s with
          msgBuf := m, msgLen := BitVec.ofNat 12 (dataCw lay), msgPos := 0#15, rsNcorr := 0#16, mValid := true,
          sstate := .idle, segMode := 0#4, segCount := 0#16, outLen := 0#14, busy := false } ∧
        (∀ b < blockCount lay, ∀ j < blockData lay b,
          bufRead m (place b j) =
            rawByte s (if j < lay.d1 then j * blockCount lay + b else lay.d1 * blockCount lay + (b - lay.b1))) ∧
        (∀ k, dataCw lay ≤ k → bufRead m k = bufRead s.msgBuf k))

/-- RS_CORRECT checks the length, then the remainder bits, then the blocks in order; the first check that fails is
raised with its information and nothing else changes (42_rs_deinterleaver.md R176; 60_exceptions.md R231, R236). -/
def Obligations.RsCorrectRaisesTheFirstError : Prop :=
  ∀ s : State, s.rValid = true →
    (s.rawLen.toNat ≠ capBits s →
      exec .rsCorrect s = .next { s with
        err := true, errCode := .lengthMismatch, errInfo := s.rawLen.setWidth 32, busy := false }) ∧
    (s.rawLen.toNat = capBits s → padValue s ≠ 0 →
      exec .rsCorrect s = .next { s with
        err := true, errCode := .dataCorruptPad, errInfo := BitVec.ofNat 32 (padValue s), busy := false }) ∧
    (s.rawLen.toNat = capBits s → padValue s = 0 → ∀ b < blockCount (configuredLayout s),
      rsDecode (configuredLayout s).ec (blockOf (configuredLayout s) (rawBytes s) b) = none →
      (∀ a < b, rsDecode (configuredLayout s).ec (blockOf (configuredLayout s) (rawBytes s) a) ≠ none) →
      exec .rsCorrect s = .next { s with
        err := true, errCode := .dataCorruptRs, errInfo := BitVec.ofNat 32 b, busy := false })

/-- Once RS_CORRECT has succeeded, running it again succeeds with the same message and only resets MSG_POS and the
segment state (42_rs_deinterleaver.md R176, corner cases). -/
def Obligations.RsCorrectRepeats : Prop :=
  ∀ s : State, Inv s → MessageIsCorrected s → s.mValid = true →
    exec .rsCorrect s = .next { s with
      msgPos := 0#15, sstate := .idle, segMode := 0#4, segCount := 0#16, outLen := 0#14, busy := false }

/-! The segment decoder. -/

/-- MSG_READ of n bits below 8·MSG_LEN writes them to RDATA, the first bit read as bit n-1, zeros above, each byte most
significant bit first, and advances MSG_POS; past the end it raises END_OF_DATA with the message-stream bit and n and
changes nothing (43_segment_decoder.md R190). -/
def Obligations.MsgReadReturnsTheBits : Prop :=
  ∀ (n : BitVec 6) (s : State), n.toNat ≤ 32 → s.mValid = true →
    (s.msgPos.toNat + n.toNat ≤ 8 * s.msgLen.toNat →
      ∃ r : Word,
        exec (.msgRead n) s = .next { s with
          rdata := r, msgPos := BitVec.ofNat 15 (s.msgPos.toNat + n.toNat), busy := false } ∧
        (∀ k < n.toNat, r.getLsbD (n.toNat - 1 - k) =
          (bufRead s.msgBuf ((s.msgPos.toNat + k) / 8)).getLsbD (7 - (s.msgPos.toNat + k) % 8)) ∧
        (∀ k, n.toNat ≤ k → r.getLsbD k = false)) ∧
    (8 * s.msgLen.toNat < s.msgPos.toNat + n.toNat →
      exec (.msgRead n) s = .next { s with
        err := true, errCode := .endOfData, errInfo := (1#1 ++ 0#25 ++ n : BitVec 32), busy := false })

/-- SEG_MODE on each 4-bit indicator: 1, 2, 4, 8 are accepted and written to SEG_MODE with the cursor moved past them;
3 and 7 raise UNSUPPORTED and every other ILLEGAL_MODE, with the indicator in ERRINFO and nothing else changed; with
fewer than 4 bits left it raises END_OF_DATA (43_segment_decoder.md R192, R193). -/
def Obligations.SegModeByIndicator : Prop :=
  ∀ s : State, s.mValid = true → s.sstate = .idle →
    (∀ m : BitVec 4, s.msgPos.toNat + 4 ≤ 8 * s.msgLen.toNat → messageBits s s.msgPos.toNat 4 = m.toNat →
      (m ∈ [1#4, 2#4, 4#4, 8#4] →
        exec .segMode s = .next { s with
          msgPos := BitVec.ofNat 15 (s.msgPos.toNat + 4), segMode := m, sstate := .modeRead, busy := false }) ∧
      (m ∈ [3#4, 7#4] →
        exec .segMode s = .next { s with
          err := true, errCode := .unsupported, errInfo := m.setWidth 32, busy := false }) ∧
      (m ∈ [0#4, 5#4, 6#4, 9#4, 10#4, 11#4, 12#4, 13#4, 14#4, 15#4] →
        exec .segMode s = .next { s with
          err := true, errCode := .illegalMode, errInfo := m.setWidth 32, busy := false })) ∧
    (8 * s.msgLen.toNat < s.msgPos.toNat + 4 →
      exec .segMode s = .next { s with
        err := true, errCode := .endOfData, errInfo := 0x80000004#32, busy := false })

/-- SEG_COUNT reads a count field whose width is the table's for the mode and the version's tier, writes SEG_COUNT,
moves the cursor and the segment state; when the field does not fit it raises END_OF_DATA with the width
(43_segment_decoder.md R194, R195). -/
def Obligations.SegCountWidths : Prop :=
  ∀ (s : State) (w : Nat), s.sstate = .modeRead → 1 ≤ s.version.toNat → s.version.toNat ≤ 40 →
    ((s.segMode = 1#4 ∧
        w = if s.version.toNat ≤ 9 then 10 else if s.version.toNat ≤ 26 then 12 else 14) ∨
     (s.segMode = 2#4 ∧
        w = if s.version.toNat ≤ 9 then 9 else if s.version.toNat ≤ 26 then 11 else 13) ∨
     (s.segMode = 4#4 ∧ w = if s.version.toNat ≤ 9 then 8 else 16) ∨
     (s.segMode = 8#4 ∧
        w = if s.version.toNat ≤ 9 then 8 else if s.version.toNat ≤ 26 then 10 else 12)) →
    (s.msgPos.toNat + w ≤ 8 * s.msgLen.toNat →
      exec .segCount s = .next { s with
        segCount := BitVec.ofNat 16 (messageBits s s.msgPos.toNat w),
        msgPos := BitVec.ofNat 15 (s.msgPos.toNat + w), sstate := .countRead, busy := false }) ∧
    (8 * s.msgLen.toNat < s.msgPos.toNat + w →
      exec .segCount s = .next { s with
        err := true, errCode := .endOfData, errInfo := BitVec.ofNat 32 (0x80000000 + w), busy := false })

/-- SEG_PAYLOAD of a byte or kanji segment whose groups fit writes one OUTBUF entry for each group: the byte, or the
Shift-JIS code of the 13-bit value; OUT_LEN, MSG_POS and SSTATE move, every other entry and register stays
(43_segment_decoder.md R197, R201, R202). -/
def Obligations.SegPayloadBytesAndKanji : Prop :=
  ∀ (s : State) (c pos : Nat), s.sstate = .countRead → c = s.segCount.toNat → pos = s.msgPos.toNat →
    (s.segMode = 4#4 → pos + 8 * c ≤ 8 * s.msgLen.toNat →
      ∃ b : Buf (BitVec 16),
        exec .segPayload s = .next { s with
          outBuf := b, outLen := BitVec.ofNat 14 c, msgPos := BitVec.ofNat 15 (pos + 8 * c), sstate := .idle,
          busy := false } ∧
        (∀ k < c, bufRead b k = BitVec.ofNat 16 (messageBits s (pos + 8 * k) 8)) ∧
        (∀ k, c ≤ k → bufRead b k = bufRead s.outBuf k)) ∧
    (s.segMode = 8#4 → pos + 13 * c ≤ 8 * s.msgLen.toNat →
      ∃ b : Buf (BitVec 16),
        exec .segPayload s = .next { s with
          outBuf := b, outLen := BitVec.ofNat 14 c, msgPos := BitVec.ofNat 15 (pos + 13 * c), sstate := .idle,
          busy := false } ∧
        (∀ k < c, ∀ m num, m = messageBits s (pos + 13 * k) 13 → num = (m / 0xC0) * 256 + m % 0xC0 →
          bufRead b k = BitVec.ofNat 16 (if num < 0x1F00 then num + 0x8140 else num + 0xC140)) ∧
        (∀ k, c ≤ k → bufRead b k = bufRead s.outBuf k))

/-- SEG_PAYLOAD of a numeric segment whose groups fit and are in range writes the ASCII digits of each 10-bit group,
leading zeros kept, and of the final 7-bit or 4-bit group (43_segment_decoder.md R197, R198). -/
def Obligations.SegPayloadNumeric : Prop :=
  ∀ (s : State) (c pos last : Nat), s.sstate = .countRead → s.segMode = 1#4 → c = s.segCount.toNat →
    pos = s.msgPos.toNat → last = (if c % 3 = 2 then 7 else if c % 3 = 1 then 4 else 0) →
    pos + 10 * (c / 3) + last ≤ 8 * s.msgLen.toNat →
    (∀ g < c / 3, messageBits s (pos + 10 * g) 10 ≤ 999) →
    (c % 3 = 2 → messageBits s (pos + 10 * (c / 3)) 7 ≤ 99) →
    (c % 3 = 1 → messageBits s (pos + 10 * (c / 3)) 4 ≤ 9) →
    ∃ b : Buf (BitVec 16),
      exec .segPayload s = .next { s with
        outBuf := b, outLen := BitVec.ofNat 14 c, msgPos := BitVec.ofNat 15 (pos + 10 * (c / 3) + last),
        sstate := .idle, busy := false } ∧
      (∀ g < c / 3, ∀ v, v = messageBits s (pos + 10 * g) 10 →
        bufRead b (3 * g) = BitVec.ofNat 16 (0x30 + v / 100) ∧
        bufRead b (3 * g + 1) = BitVec.ofNat 16 (0x30 + v / 10 % 10) ∧
        bufRead b (3 * g + 2) = BitVec.ofNat 16 (0x30 + v % 10)) ∧
      (c % 3 = 2 → ∀ v, v = messageBits s (pos + 10 * (c / 3)) 7 →
        bufRead b (c - 2) = BitVec.ofNat 16 (0x30 + v / 10) ∧
        bufRead b (c - 1) = BitVec.ofNat 16 (0x30 + v % 10)) ∧
      (c % 3 = 1 → ∀ v, v = messageBits s (pos + 10 * (c / 3)) 4 →
        bufRead b (c - 1) = BitVec.ofNat 16 (0x30 + v)) ∧
      (∀ k, c ≤ k → bufRead b k = bufRead s.outBuf k)

/-- SEG_PAYLOAD of an alphanumeric segment whose groups fit and are in range writes the two characters of each 11-bit
pair and the one of the final 6-bit group, from the alphabet of R199 (43_segment_decoder.md R197, R199, R200). -/
def Obligations.SegPayloadAlphanumeric : Prop :=
  ∀ (s : State) (c pos last : Nat) (letter : Nat → BitVec 16), s.sstate = .countRead → s.segMode = 2#4 →
    c = s.segCount.toNat → pos = s.msgPos.toNat → last = (if c % 2 = 1 then 6 else 0) →
    (∀ k, letter k =
      BitVec.ofNat 16 ("0123456789ABCDEFGHIJKLMNOPQRSTUVWXYZ $%*+-./:".toList.getD k ' ').toNat) →
    pos + 11 * (c / 2) + last ≤ 8 * s.msgLen.toNat →
    (∀ g < c / 2, messageBits s (pos + 11 * g) 11 < 2025) →
    (c % 2 = 1 → messageBits s (pos + 11 * (c / 2)) 6 < 45) →
    ∃ b : Buf (BitVec 16),
      exec .segPayload s = .next { s with
        outBuf := b, outLen := BitVec.ofNat 14 c, msgPos := BitVec.ofNat 15 (pos + 11 * (c / 2) + last),
        sstate := .idle, busy := false } ∧
      (∀ g < c / 2,
        bufRead b (2 * g) = letter (messageBits s (pos + 11 * g) 11 / 45) ∧
        bufRead b (2 * g + 1) = letter (messageBits s (pos + 11 * g) 11 % 45)) ∧
      (c % 2 = 1 → bufRead b (c - 1) = letter (messageBits s (pos + 11 * (c / 2)) 6)) ∧
      (∀ k, c ≤ k → bufRead b k = bufRead s.outBuf k)

/-- When a group of the payload fails, the first failing group in stream order is the one raised, END_OF_DATA with its
width or ILLEGAL_VALUE with width and value, the final 7-bit, 4-bit or 6-bit group after the full ones; OUT_LEN becomes 0
and all else stays (43_segment_decoder.md R197, R198,
R200, R201, R202; 60_exceptions.md R234, R236). -/
def Obligations.SegPayloadFirstFailureWins : Prop :=
  ∀ (s : State) (c pos limit : Nat), s.sstate = .countRead → c = s.segCount.toNat → pos = s.msgPos.toNat →
    limit = 8 * s.msgLen.toNat →
    (s.segMode = 4#4 → 1 ≤ c → limit < pos + 8 * c →
      exec .segPayload s = .next { s with
        err := true, errCode := .endOfData, errInfo := 0x80000008#32, outLen := 0#14, busy := false }) ∧
    (s.segMode = 8#4 → 1 ≤ c → limit < pos + 13 * c →
      exec .segPayload s = .next { s with
        err := true, errCode := .endOfData, errInfo := 0x8000000D#32, outLen := 0#14, busy := false }) ∧
    (s.segMode = 1#4 → ∀ j < c / 3,
      (∀ g < j, pos + 10 * g + 10 ≤ limit ∧ messageBits s (pos + 10 * g) 10 ≤ 999) →
      (limit < pos + 10 * j + 10 →
        exec .segPayload s = .next { s with
          err := true, errCode := .endOfData, errInfo := 0x8000000A#32, outLen := 0#14, busy := false }) ∧
      (pos + 10 * j + 10 ≤ limit → 999 < messageBits s (pos + 10 * j) 10 →
        exec .segPayload s = .next { s with
          err := true, errCode := .illegalValue,
          errInfo := BitVec.ofNat 32 (0xA0000 + messageBits s (pos + 10 * j) 10), outLen := 0#14,
          busy := false })) ∧
    (s.segMode = 1#4 → (∀ g < c / 3, pos + 10 * g + 10 ≤ limit ∧ messageBits s (pos + 10 * g) 10 ≤ 999) →
      ∀ width most last, last = pos + 10 * (c / 3) →
      ((c % 3 = 2 ∧ width = 7 ∧ most = 99) ∨ (c % 3 = 1 ∧ width = 4 ∧ most = 9)) →
      (limit < last + width →
        exec .segPayload s = .next { s with
          err := true, errCode := .endOfData, errInfo := BitVec.ofNat 32 (0x80000000 + width), outLen := 0#14,
          busy := false }) ∧
      (last + width ≤ limit → most < messageBits s last width →
        exec .segPayload s = .next { s with
          err := true, errCode := .illegalValue,
          errInfo := BitVec.ofNat 32 (0x10000 * width + messageBits s last width), outLen := 0#14,
          busy := false })) ∧
    (s.segMode = 2#4 → c % 2 = 1 →
      (∀ g < c / 2, pos + 11 * g + 11 ≤ limit ∧ messageBits s (pos + 11 * g) 11 < 2025) →
      ∀ last, last = pos + 11 * (c / 2) →
      (limit < last + 6 →
        exec .segPayload s = .next { s with
          err := true, errCode := .endOfData, errInfo := 0x80000006#32, outLen := 0#14, busy := false }) ∧
      (last + 6 ≤ limit → 45 ≤ messageBits s last 6 →
        exec .segPayload s = .next { s with
          err := true, errCode := .illegalValue, errInfo := BitVec.ofNat 32 (0x60000 + messageBits s last 6),
          outLen := 0#14, busy := false })) ∧
    (s.segMode = 2#4 → ∀ j < c / 2,
      (∀ g < j, pos + 11 * g + 11 ≤ limit ∧ messageBits s (pos + 11 * g) 11 < 2025) →
      (limit < pos + 11 * j + 11 →
        exec .segPayload s = .next { s with
          err := true, errCode := .endOfData, errInfo := 0x8000000B#32, outLen := 0#14, busy := false }) ∧
      (pos + 11 * j + 11 ≤ limit → 2025 ≤ messageBits s (pos + 11 * j) 11 →
        exec .segPayload s = .next { s with
          err := true, errCode := .illegalValue,
          errInfo := BitVec.ofNat 32 (0xB0000 + messageBits s (pos + 11 * j) 11), outLen := 0#14,
          busy := false }))

/-- SEG_DECODE is SEG_MODE, SEG_COUNT and SEG_PAYLOAD: where the three succeed it leaves the same state; where one fails
it records that error, and only OUT_LEN can differ from before, as the three commands leave it
(43_segment_decoder.md R204). -/
def Obligations.SegDecodeIsTheThreeCommands : Prop :=
  ∀ s u : State, s.mValid = true → s.sstate = .idle → s.err = false →
    runUntilError [.segMode, .segCount, .segPayload] s = .next u →
    (u.err = false → exec .segDecode s = .next u) ∧
    (u.err = true → exec .segDecode s = .next { s with
      err := true, errCode := u.errCode, errInfo := u.errInfo, outLen := u.outLen, busy := false })

/-- SEG_DECODE of a byte segment that fits writes the mode, the count, the bytes and the lengths, and leaves every other
entry and register (43_segment_decoder.md R193, R195, R197, R201, R204). -/
def Obligations.SegDecodeOfAByteSegment : Prop :=
  ∀ (s : State) (p w c : Nat), s.mValid = true → s.sstate = .idle → p = s.msgPos.toNat →
    messageBits s p 4 = 4 → w = (if s.version.toNat ≤ 9 then 8 else 16) → c = messageBits s (p + 4) w →
    p + 4 + w + 8 * c ≤ 8 * s.msgLen.toNat →
    ∃ b : Buf (BitVec 16),
      exec .segDecode s = .next { s with
        outBuf := b, outLen := BitVec.ofNat 14 c, msgPos := BitVec.ofNat 15 (p + 4 + w + 8 * c), segMode := 4#4,
        segCount := BitVec.ofNat 16 c, busy := false } ∧
      (∀ k < c, bufRead b k = BitVec.ofNat 16 (messageBits s (p + 4 + w + 8 * k) 8)) ∧
      (∀ k, c ≤ k → bufRead b k = bufRead s.outBuf k)

/-! The whole pipeline. -/

/-- DECODE_ALL is FMT_GATHER, FMT_DECODE2, ZZ_TRAVERSE, RS_CORRECT and SEG_DECODE run in order until one fails, with the
effects of the completed ones kept (44_control.md R221; 60_exceptions.md R234). That a failing FMT_DECODE2 leaves an F_VALID
of 1 at 1 is the model's reading of R221 (log entry 17, DEDUCED). -/
def Obligations.DecodeAllIsTheFiveCommands : Prop :=
  ∀ s : State, s.vValid = true → s.err = false →
    exec .decodeAll s = runUntilError [.fmtGather, .fmtDecode2, .zzTraverse, .rsCorrect, .segDecode] s

/-- DECODE_ALL on a module source that holds an error-free symbol of the configured version, with its format word at
both places and a first segment in byte mode that fits, completes without an error: the format, the raw stream, the
message and the segment's bytes are what the symbol holds. That a traversal yields CAP_BITS bits is a premise here and
a statement of its own (TraversalFillsTheCapacity); a first segment of another mode is left to
DecodeAllIsTheFiveCommands and the statements about the segment commands (44_control.md R221; 42_rs_deinterleaver.md R177 c). -/
def Obligations.DecodeAllOnAnErrorFreeSymbol : Prop :=
  ∀ (s : State) (d : BitVec 5) (v w c : Nat) (lay : BlockLayout) (raw : List Bool) (message : List Byte),
    v = s.version.toNat → lay = layoutOf v (levelOf (d.extractLsb' 3 2)) →
    raw = symbolBits s.modules v (d.extractLsb' 0 3) → message = dataOf lay (bytesOf (totalCw v) raw) →
    w = (if v ≤ 9 then 8 else 16) → c = bitsAt message 4 w →
    s.vValid = true → s.drift = false → 1 ≤ v → v ≤ 40 → s.side.toNat = 17 + 4 * v → raw.length = capBitsOf v →
    gatherSample s formatPositions1 = fmtCw d → gatherSample s formatPositions2 = fmtCw d →
    (∀ bit ∈ raw.drop (8 * totalCw v), bit = false) →
    (∀ b < blockCount lay, isCodeword lay.ec (blockOf lay (bytesOf (totalCw v) raw) b) = true) →
    bitsAt message 0 4 = 4 → 4 + w + 8 * c ≤ 8 * dataCw lay →
    ∃ t, exec .decodeAll s = .next t ∧
      t = { s with
        fmtS1 := fmtCw d, fmtS2 := fmtCw d, fmtResult := d.setWidth 32, ecl := d.extractLsb' 3 2,
        maskId := d.extractLsb' 0 3, fValid := true, rValid := true, mValid := true, rawBuf := t.rawBuf,
        rawLen := BitVec.ofNat 15 (capBitsOf v), rawPos := 0#15, msgBuf := t.msgBuf,
        msgLen := BitVec.ofNat 12 (dataCw lay), msgPos := BitVec.ofNat 15 (4 + w + 8 * c), rsNcorr := 0#16,
        sstate := .idle, segMode := 4#4, segCount := BitVec.ofNat 16 c, outLen := BitVec.ofNat 14 c,
        outBuf := t.outBuf, busy := false } ∧
      (∀ k < raw.length, bufRead t.rawBuf k = raw.getD k false) ∧
      (∀ k < message.length, bufRead t.msgBuf k = message.getD k 0#8) ∧
      (∀ k < c, bufRead t.outBuf k = BitVec.ofNat 16 (bitsAt message (4 + w + 8 * k) 8))

/-! Whole-machine rules. -/

/-- The state right after reset meets the invariant (70_reset_and_hazards.md R261). Its clause on the buffers rests on
log entry 1, the model's choice of what a buffer entry reads as after reset. -/
def Obligations.InvAtReset : Prop := Inv State.reset

/-- Every step keeps the invariant: the order of the valid bits, the ranges of the registers, what is zero while a valid
bit is, the error record, the cursors, the canonical form of the buffers (10_state.md R25-R41, R49;
42_rs_deinterleaver.md R177 e; the field docstrings of Inv name each rule). -/
def Obligations.StepKeepsInv : Prop :=
  ∀ s t : State, Inv s → step s = .next t → Inv t

/-- Every step keeps: M_VALID = 1 means that RS_CORRECT has succeeded on the present RAWBUF under the present
configuration, and MSGBUF and RS_NCORR hold what it found (42_rs_deinterleaver.md R176, corner cases). -/
def Obligations.StepKeepsTheMessageCorrected : Prop :=
  ∀ s t : State, MessageIsCorrected s → step s = .next t → MessageIsCorrected t

/-- A command that raises an error leaves every register, buffer and cursor as before, but for the error record, BUSY,
and OUT_LEN, which only SEG_PAYLOAD and SEG_DECODE may set to 0; DECODE_ALL, which keeps its completed sub-steps, has its
own statement (60_exceptions.md R233, R234, R237). Which errors of SEG_PAYLOAD set OUT_LEN to 0 is log entry 18 (DEDUCED:
those of its body). -/
def Obligations.FailingCommandRollsBack : Prop :=
  ∀ (i : Instr) (s t : State), s.err = false → i ≠ .decodeAll → exec i s = .next t → t.err = true →
    t = { s with err := true, errCode := t.errCode, errInfo := t.errInfo, outLen := t.outLen, busy := false } ∧
    (t.outLen = s.outLen ∨ ((i = .segPayload ∨ i = .segDecode) ∧ t.outLen = 0#14))

/-- Every command ends with BUSY = 0. An out-of-range count raises ILLEGAL_COMMAND; a precondition that does not hold
raises SEQUENCE with the word and changes nothing else; otherwise only the command's own errors can be raised, SEQUENCE
never (30_encoding.md R96; 60_exceptions.md R230, R232, R236). Three points are the model's: that a SEG_PAYLOAD that raises
SEQUENCE leaves OUT_LEN as it was (log entry 18, DEDUCED), that a command term whose count is out of range raises
ILLEGAL_COMMAND in exec too (log entry 13, DESIGN CHOICE; the decoder already refuses its word), and that ERRINFO is CMDL whatever command exec is applied to (log entry 12, DEDUCED; in a run CMDL holds that command). -/
def Obligations.CommandsRaiseTheirOwnErrors : Prop :=
  ∀ (i : Instr) (s : State), s.err = false → ∃ t, exec i s = .next t ∧ t.busy = false ∧
    (i.wf = false →
      t = { s with err := true, errCode := .illegalCommand, errInfo := s.cmdl, busy := false }) ∧
    (i.wf = true → precondition i s = false →
      t = { s with err := true, errCode := .sequence, errInfo := s.cmdl, busy := false }) ∧
    (i.wf = true → precondition i s = true → t.err = true → t.errCode ∈ ownErrors i)

/-- Each register, valid bit and buffer is written only by the commands named for it: what a command outside its list
leaves unchanged, error or not. No command writes WDATA, OVERRUN or CMDL; a command that ends without a new error leaves
the error record (10_state.md R25-R41, R44-R47, R49; the Writes line of each command's rule). -/
def Obligations.RegistersHaveTheirWriters : Prop :=
  ∀ (i : Instr) (s t : State) (format stream message segment : List String),
    format = ["SET_VERSION", "SET_SIDE", "SET_FORMAT", "FMT_DECODE1", "FMT_DECODE2", "DECODE_ALL"] →
    stream = format ++ ["ZZ_TRAVERSE", "RAW_CLEAR"] → message = stream ++ ["RAW_APPEND", "RS_CORRECT"] →
    segment = message ++ ["MSG_REWIND", "SEG_DECODE"] → exec i s = .next t →
    t.wdata = s.wdata ∧ t.overrun = s.overrun ∧ t.cmdl = s.cmdl ∧
    (t.err = true ∨ (t.err = s.err ∧ t.errCode = s.errCode ∧ t.errInfo = s.errInfo)) ∧
    (mnemonicOf i ∉ ["RAW_READ", "MSG_READ", "MASK_EVAL", "DZ_QUERY"] → t.rdata = s.rdata) ∧
    (mnemonicOf i ∉ ["FMT_ENCODE", "FMT_CHECK", "FMT_DECODE1", "FMT_DECODE2", "DECODE_ALL"] →
      t.fmtResult = s.fmtResult) ∧
    (mnemonicOf i ∉ ["SET_VERSION", "SET_SIDE"] →
      t.version = s.version ∧ t.side = s.side ∧ t.vValid = s.vValid) ∧
    (mnemonicOf i ∉ format → t.ecl = s.ecl ∧ t.maskId = s.maskId ∧ t.fValid = s.fValid) ∧
    (mnemonicOf i ∉ ["FMT_GATHER", "DECODE_ALL"] → t.fmtS1 = s.fmtS1 ∧ t.fmtS2 = s.fmtS2) ∧
    (mnemonicOf i ∉ stream → t.rValid = s.rValid) ∧
    (mnemonicOf i ∉ stream ++ ["RAW_APPEND"] → t.rawLen = s.rawLen) ∧
    (mnemonicOf i ∉ stream ++ ["RAW_READ", "RAW_REWIND"] → t.rawPos = s.rawPos) ∧
    (mnemonicOf i ∉ message → t.mValid = s.mValid ∧ t.msgLen = s.msgLen ∧ t.rsNcorr = s.rsNcorr) ∧
    (mnemonicOf i ∉ segment ++ ["MSG_READ", "SEG_MODE", "SEG_COUNT", "SEG_PAYLOAD"] → t.msgPos = s.msgPos) ∧
    (mnemonicOf i ∉ segment ++ ["SEG_MODE", "SEG_COUNT", "SEG_PAYLOAD"] → t.sstate = s.sstate) ∧
    (mnemonicOf i ∉ segment ++ ["SEG_MODE"] → t.segMode = s.segMode) ∧
    (mnemonicOf i ∉ segment ++ ["SEG_COUNT"] → t.segCount = s.segCount) ∧
    (mnemonicOf i ∉ segment ++ ["SEG_PAYLOAD"] → t.outLen = s.outLen) ∧
    (mnemonicOf i ∉ ["ZZ_TRAVERSE", "RAW_APPEND", "DECODE_ALL"] → t.rawBuf = s.rawBuf) ∧
    (mnemonicOf i ∉ ["RS_CORRECT", "DECODE_ALL"] → t.msgBuf = s.msgBuf) ∧
    (mnemonicOf i ∉ ["SEG_PAYLOAD", "SEG_DECODE", "DECODE_ALL"] → t.outBuf = s.outBuf)

/-- The engine reads the module port only during FMT_GATHER, ZZ_TRAVERSE and DECODE_ALL: no other command depends on
what the module source answers or on whether it changed; and RS_CORRECT depends neither on MASK_ID nor on a raw bit past
the capacity (20_memory.md R70; 42_rs_deinterleaver.md R177 b and d). -/
def Obligations.ModulePortIndependence : Prop :=
  (∀ (i : Instr) (s : State) (g : Grid) (changed : Bool), mnemonicOf i ∉ ["FMT_GATHER", "ZZ_TRAVERSE", "DECODE_ALL"] →
    ∃ t, exec i s = .next t ∧
      exec i { s with modules := g, drift := changed } = .next { t with modules := g, drift := changed }) ∧
  (∀ (s : State) (m : BitVec 3) (b : Buf Bool),
    (∀ k < capBitsOf s.version.toNat, bufRead b k = bufRead s.rawBuf k) →
    ∃ t, exec .rsCorrect s = .next t ∧
      exec .rsCorrect { s with maskId := m, rawBuf := b } = .next { t with maskId := m, rawBuf := b })

/-! The host interface. -/

/-- A CMD write is dropped with OVERRUN while BUSY or ERR, else latched with BUSY = 1; an operand-register write is
dropped with OVERRUN while BUSY, else done, ERR or not (60_exceptions.md R232, R235, R247; 10_state.md R24, R29, R31,
R32). Two points are the model's: that a dropped write completes normally on the bus, the reply written (log entry 15,
DEDUCED, unsafe), and that the latency and the draw number are taken at acceptance (log entries 3 and 5). -/
def Obligations.WritesAreTakenOrDropped : Prop :=
  ∀ (s : State) (v : Word),
    (s.busy = true ∨ s.err = true →
      handleEvent (.access (.write .word 0x008#15 v)) s = { s with overrun := true, reply := .written }) ∧
    (s.busy = false → s.err = false →
      handleEvent (.access (.write .word 0x008#15 v)) s = { s with
        cmdl := v, busy := true, reply := .written, drift := false, draws := s.draws + 1,
        lag := s.latencies.headD 0, latencies := s.latencies.tail }) ∧
    (s.busy = true → ∀ offset ∈ [0x018#15, 0x020#15, 0x024#15],
      handleEvent (.access (.write .word offset v)) s = { s with overrun := true, reply := .written }) ∧
    (s.busy = false →
      handleEvent (.access (.write .word 0x018#15 v)) s = { s with wdata := v, reply := .written } ∧
      handleEvent (.access (.write .word 0x020#15 v)) s =
        { s with fmtS1 := v.extractLsb' 0 15, reply := .written } ∧
      handleEvent (.access (.write .word 0x024#15 v)) s =
        { s with fmtS2 := v.extractLsb' 0 15, reply := .written })

/-- A CTRL write with SRST = 1, and the hardware reset, set every register to its reset value at once and abandon the
command in flight; with SRST = 0 and CLRERR = 1 it clears ERR, ERRCODE, ERRINFO and OVERRUN and nothing else; with both 0
it does nothing. What the model keeps across a reset stands outside the block (10_state.md R23; 44_control.md R222,
R223; 70_reset_and_hazards.md R260, R261; log entries 1, 2, 4). -/
def Obligations.CtrlActions : Prop :=
  (∀ (s : State) (v : Word),
    (v.getLsbD 0 = true →
      handleEvent (.access (.write .word 0x004#15 v)) s = { State.reset with
        events := s.events, latencies := s.latencies, modules := s.modules, draws := s.draws, reply := .written }) ∧
    (v.getLsbD 0 = false → v.getLsbD 1 = true →
      handleEvent (.access (.write .word 0x004#15 v)) s = { s with
        err := false, errCode := .none, errInfo := 0#32, overrun := false, reply := .written }) ∧
    (v.getLsbD 0 = false → v.getLsbD 1 = false →
      handleEvent (.access (.write .word 0x004#15 v)) s = { s with reply := .written }) ∧
    handleEvent .hardReset s = { State.reset with
      events := s.events, latencies := s.latencies, modules := s.modules, draws := s.draws, reply := s.reply }) ∧
  (∀ k < 21, handleEvent (.access (.read .word (BitVec.ofNat 15 (4 * k)))) State.reset =
    { State.reset with reply := .data (if k = 0 then 0x51520100#32 else 0#32) })

/-- An 8-bit or 16-bit access, an access that is not at a multiple of 4, and an access to an unmapped offset give a bus
error and change nothing of the block, a read with an unspecified word; a write to a read-only register or to a window
completes and is ignored; CTRL and CMD read 0. The free word with its draw number and the bus response are the
model's (log entries 5 and 8) (20_memory.md R61, R62, R63). -/
def Obligations.BusErrorsAndIgnoredWrites : Prop :=
  ∀ (s : State) (width : Width) (offset : BitVec 15) (v : Word),
    (width ≠ .word ∨ offset.toNat % 4 ≠ 0 ∨ (0x54 ≤ offset.toNat ∧ offset.toNat < 0x1000) ∨
        (0x3000 ≤ offset.toNat ∧ offset.toNat < 0x4000) →
      (∃ w : Word, handleEvent (.access (.read width offset)) s =
        { s with reply := .readError w, draws := s.draws + 1 }) ∧
      handleEvent (.access (.write width offset v)) s = { s with reply := .writeError }) ∧
    (width = .word → offset.toNat % 4 = 0 →
      (offset.toNat < 0x54 ∧ offset ∉ [0x004#15, 0x008#15, 0x018#15, 0x020#15, 0x024#15]) ∨
        (0x1000 ≤ offset.toNat ∧ offset.toNat < 0x3000) ∨ 0x4000 ≤ offset.toNat →
      handleEvent (.access (.write width offset v)) s = { s with reply := .written }) ∧
    (s.busy = false → offset ∈ [0x004#15, 0x008#15] →
      handleEvent (.access (.read .word offset)) s = { s with reply := .data 0#32 })

/-- A read changes nothing but the bus response (and the number of the next free draw) and, with BUSY = 0, repeating a
completed one gives the same answer; while BUSY = 1 a read of STATUS returns BUSY = 1 and the current OVERRUN, its other
bits free (20_memory.md R69, R80; 70_reset_and_hazards.md R267; log entries 5 and 8). -/
def Obligations.ReadsHaveNoSideEffect : Prop :=
  (∀ (s : State) (width : Width) (offset : BitVec 15),
    ∃ r n, handleEvent (.access (.read width offset)) s = { s with reply := r, draws := n }) ∧
  (∀ (s t : State) (width : Width) (offset : BitVec 15) (w : Word), s.busy = false →
    handleEvent (.access (.read width offset)) s = t → t.reply = .data w →
    handleEvent (.access (.read width offset)) t = t) ∧
  (∀ s : State, s.busy = true →
    ∃ w n, handleEvent (.access (.read .word 0x00C#15)) s = { s with reply := .data w, draws := n } ∧
      w.getLsbD 0 = true ∧ w.getLsbD 2 = s.overrun)

/-- With BUSY = 0, each window reads its buffer below the buffer's length, the RAW window most significant bit first and
all windows little-endian, and 0 at and past the length, whatever the buffer holds there
(20_memory.md R64, R65, R66, R67, R68). -/
def Obligations.WindowsShowTheBuffers : Prop :=
  ∀ s : State, s.busy = false →
    (∀ w < 1024, ∃ word : Word,
      handleEvent (.access (.read .word (BitVec.ofNat 15 (0x1000 + 4 * w)))) s = { s with reply := .data word } ∧
      ∀ j < 4, ∀ b < 8, word.getLsbD (8 * j + (7 - b)) =
        if 32 * w + 8 * j + b < s.rawLen.toNat then bufRead s.rawBuf (32 * w + 8 * j + b) else false) ∧
    (∀ w < 1024, ∃ word : Word,
      handleEvent (.access (.read .word (BitVec.ofNat 15 (0x2000 + 4 * w)))) s = { s with reply := .data word } ∧
      ∀ j < 4, word.extractLsb' (8 * j) 8 =
        if 4 * w + j < s.msgLen.toNat then bufRead s.msgBuf (4 * w + j) else 0#8) ∧
    (∀ w < 4096, ∃ word : Word,
      handleEvent (.access (.read .word (BitVec.ofNat 15 (0x4000 + 4 * w)))) s = { s with reply := .data word } ∧
      ∀ j < 2, word.extractLsb' (16 * j) 16 =
        if 2 * w + j < s.outLen.toNat then bufRead s.outBuf (2 * w + j) else 0#16)

/-- With BUSY = 0, each register reads what the register map gives at its offset: STATUS, CONFIG and LAYOUT their fields at
their places, reserved bits 0, ERRCODE as the code of R230's table; every other register its value, zero-extended;
CAP_BITS 8·TOTAL_CW + REM_BITS with a version configured, else 0; LAYOUT the block layout of the configured version and
level, 0 without a format. CTRL and CMD are in BusErrorsAndIgnoredWrites (10_state.md R22, R25, R27-R43; 60_exceptions.md
R230). -/
def Obligations.StatusConfigAndLayoutWords : Prop :=
  ∀ s : State, s.busy = false →
    (∀ e ∈ [(0x000#15, 0x51520100#32), (0x010#15, s.errInfo), (0x018#15, s.wdata), (0x01C#15, s.rdata),
        (0x020#15, s.fmtS1.setWidth 32), (0x024#15, s.fmtS2.setWidth 32), (0x028#15, s.fmtResult),
        (0x02C#15, s.rawLen.setWidth 32), (0x030#15, s.rawPos.setWidth 32), (0x034#15, s.msgLen.setWidth 32),
        (0x038#15, s.msgPos.setWidth 32), (0x03C#15, s.rsNcorr.setWidth 32), (0x040#15, s.segMode.setWidth 32),
        (0x044#15, s.segCount.setWidth 32), (0x048#15, s.outLen.setWidth 32)],
      handleEvent (.access (.read .word e.1)) s = { s with reply := .data e.2 }) ∧
    handleEvent (.access (.read .word 0x04C#15)) s = { s with
      reply := .data (BitVec.ofNat 32
        (if s.vValid then 8 * totalCw s.version.toNat + remBits s.version.toNat else 0)) } ∧
    (∃ w : Word, handleEvent (.access (.read .word 0x00C#15)) s = { s with reply := .data w } ∧
      w.getLsbD 0 = false ∧ w.getLsbD 1 = s.err ∧ w.getLsbD 2 = s.overrun ∧ w.getLsbD 3 = s.vValid ∧
      w.getLsbD 4 = s.fValid ∧ w.getLsbD 5 = s.rValid ∧ w.getLsbD 6 = s.mValid ∧ w.getLsbD 7 = false ∧
      w.extractLsb' 8 3 = pstate s ∧ w.getLsbD 11 = false ∧
      w.extractLsb' 12 2 = (match s.sstate with | .idle => 0#2 | .modeRead => 1#2 | .countRead => 2#2) ∧
      w.extractLsb' 14 2 = 0#2 ∧ w.extractLsb' 24 8 = 0#8 ∧
      w.extractLsb' 16 8 = (match s.errCode with
        | .none => 0x00#8 | .illegalCommand => 0x01#8 | .sequence => 0x02#8 | .illegalVersion => 0x03#8
        | .formatCorrupt => 0x04#8 | .dataCorruptRs => 0x05#8 | .dataCorruptPad => 0x06#8
        | .lengthMismatch => 0x07#8 | .endOfData => 0x08#8 | .illegalMode => 0x09#8 | .unsupported => 0x0A#8
        | .illegalValue => 0x0B#8 | .bufferFull => 0x0C#8)) ∧
    (∃ w : Word, handleEvent (.access (.read .word 0x014#15)) s = { s with reply := .data w } ∧
      w.extractLsb' 0 6 = s.version ∧ w.extractLsb' 6 2 = 0#2 ∧ w.extractLsb' 8 2 = s.ecl ∧
      w.extractLsb' 10 2 = 0#2 ∧ w.extractLsb' 12 3 = s.maskId ∧ w.getLsbD 15 = false ∧
      w.extractLsb' 16 8 = s.side ∧ w.extractLsb' 24 8 = 0#8) ∧
    (∃ w : Word, handleEvent (.access (.read .word 0x050#15)) s = { s with reply := .data w } ∧
      (s.fValid = false → w = 0#32) ∧
      (s.fValid = true → ∀ lay, lay = layoutOf s.version.toNat (levelOf s.ecl) →
        (w.extractLsb' 0 8).toNat = lay.ec ∧ (w.extractLsb' 8 8).toNat = lay.b1 ∧
        (w.extractLsb' 16 8).toNat = lay.d1 ∧ (w.extractLsb' 24 8).toNat = lay.b2))

/-- PSTATE is the function of the valid bits that R26 gives, in every state whose valid bits are in their order; 3, 5, 6
and 7 are never produced (10_state.md R26). -/
def Obligations.PstateFollowsTheValidBits : Prop :=
  ∀ s : State, Inv s →
    (s.vValid = false → pstate s = 0#3) ∧
    (s.vValid = true → s.fValid = false → pstate s = 1#3) ∧
    (s.fValid = true → s.rValid = false → pstate s = 2#3) ∧
    (s.rValid = true → pstate s = 4#3) ∧
    pstate s ∉ [3#3, 5#3, 6#3, 7#3]
end

