-- ==== Sys2Proof/Laws/Buffer.lean ====
section
/-! SUPPORT. The buffers: what a store leaves at every index, that it keeps the canonical form, that canonical buffers
with equal entries are equal, and the number of a bit list. -/

namespace Sys2Proof.Machine

section
variable {α : Type} [Inhabited α]

/-- An index the first part lists reads as there. -/
theorem bufRead_append_listed (b c : Buf α) (k : Nat) (h : ∃ x, (k, x) ∈ b) : bufRead (b ++ c) k = bufRead b k := by
  induction b with
  | nil => simp at h
  | cons e rest ih =>
    obtain ⟨i, x⟩ := e
    by_cases hik : i = k
    · simp [bufRead, hik]
    · have hrest : ∃ y, (k, y) ∈ rest := by
        obtain ⟨y, hy⟩ := h
        rcases List.mem_cons.mp hy with hy | hy
        · exact absurd (Prod.mk.inj hy).1.symm hik
        · exact ⟨y, hy⟩
      simp only [List.cons_append, bufRead, if_neg hik, ih hrest]

/-- An index the first part does not list reads as in the second. -/
theorem bufRead_append_not_listed (b c : Buf α) (k : Nat) (h : ¬ ∃ x, (k, x) ∈ b) :
    bufRead (b ++ c) k = bufRead c k := by
  induction b with
  | nil => rfl
  | cons e rest ih =>
    obtain ⟨i, x⟩ := e
    have hik : i ≠ k := fun hik => h ⟨x, by simp [hik]⟩
    have hrest : ¬ ∃ y, (k, y) ∈ rest := fun ⟨y, hy⟩ => h ⟨y, List.mem_cons_of_mem _ hy⟩
    simp only [List.cons_append, bufRead, if_neg hik, ih hrest]

/-- An index no entry lists reads as the unlisted value. -/
theorem bufRead_of_not_listed (b : Buf α) (k : Nat) (h : ¬ ∃ x, (k, x) ∈ b) : bufRead b k = unlisted := by
  induction b with
  | nil => rfl
  | cons e rest ih =>
    obtain ⟨i, x⟩ := e
    have hi : i ≠ k := fun hik => h ⟨x, by simp [hik]⟩
    have hr : ¬ ∃ y, (k, y) ∈ rest := fun ⟨y, hy⟩ => h ⟨y, List.mem_cons_of_mem _ hy⟩
    simp only [bufRead, if_neg hi, ih hr]

/-- Filtering on the index leaves the read at a kept index as it was. -/
theorem bufRead_filter (b : Buf α) (p : Nat → Bool) (k : Nat) :
    bufRead (b.filter fun e => p e.1) k = if p k then bufRead b k else unlisted := by
  induction b with
  | nil => simp [bufRead]
  | cons e rest ih =>
    obtain ⟨i, x⟩ := e
    by_cases hp : p i
    · by_cases hik : i = k
      · subst hik
        simp [List.filter, hp, bufRead]
      · simp [List.filter, hp, bufRead, hik, ih]
    · by_cases hik : i = k
      · subst hik
        simp [List.filter, hp, ih]
      · simp [List.filter, hp, bufRead, hik, ih]

variable [DecidableEq α]

theorem bufEntries_index (start : Nat) (xs : List α) (k : Nat) (x : α) (h : (k, x) ∈ bufEntries start xs) :
    start ≤ k ∧ k < start + xs.length := by
  induction xs generalizing start with
  | nil => simp [bufEntries] at h
  | cons y ys ih =>
    unfold bufEntries at h
    split at h
    · have := ih (start + 1) h
      simp only [List.length_cons]
      omega
    · rcases List.mem_cons.mp h with h | h
      · have := (Prod.mk.inj h).1
        simp only [List.length_cons]
        omega
      · have := ih (start + 1) h
        simp only [List.length_cons]
        omega

/-- The listed form of a run of values reads as the run. -/
theorem bufRead_bufEntries (start : Nat) (xs : List α) (k : Nat) :
    bufRead (bufEntries start xs) (start + k) = xs.getD k unlisted := by
  induction xs generalizing start k with
  | nil => simp [bufEntries, bufRead]
  | cons y ys ih =>
    cases k with
    | zero =>
      unfold bufEntries
      split
      · next hy =>
        rw [bufRead_of_not_listed]
        · simpa using hy.symm
        · rintro ⟨x, hx⟩
          have := bufEntries_index _ _ _ _ hx
          omega
      · simp [bufRead]
    | succ k =>
      have hk : start + (k + 1) = start + 1 + k := by omega
      unfold bufEntries
      split
      · rw [hk, ih]
        simp
      · have hne : start ≠ start + (k + 1) := by omega
        simp only [bufRead, if_neg hne]
        rw [hk, ih]
        simp

/-- What a store leaves at every index: the stored values, every other entry as before. -/
theorem bufRead_bufStore (b : Buf α) (start : Nat) (xs : List α) (k : Nat) :
    bufRead (bufStore b start xs) k =
      if start ≤ k ∧ k < start + xs.length then xs.getD (k - start) unlisted else bufRead b k := by
  have hlow := bufRead_filter b (fun i => decide (i < start)) k
  have hhigh := bufRead_filter b (fun i => decide (start + xs.length ≤ i)) k
  simp only [decide_eq_true_eq] at hlow hhigh
  unfold bufStore
  rw [List.append_assoc]
  by_cases h1 : k < start
  · rw [if_neg (by omega)]
    rw [if_pos h1] at hlow
    by_cases hl : ∃ x, (k, x) ∈ b.filter fun e => decide (e.1 < start)
    · rw [bufRead_append_listed _ _ _ hl, hlow]
    · have hz := bufRead_of_not_listed _ _ hl
      rw [hlow] at hz
      rw [bufRead_append_not_listed _ _ _ hl, hz, bufRead_of_not_listed]
      rintro ⟨x, hx⟩
      rcases List.mem_append.mp hx with hx | hx
      · have := bufEntries_index _ _ _ _ hx
        omega
      · simp only [List.mem_filter, decide_eq_true_eq] at hx
        omega
  · have hskip : ¬ ∃ x, (k, x) ∈ b.filter fun e => decide (e.1 < start) := by
      rintro ⟨x, hx⟩
      simp only [List.mem_filter, decide_eq_true_eq] at hx
      omega
    rw [bufRead_append_not_listed _ _ _ hskip]
    by_cases h2 : k < start + xs.length
    · rw [if_pos ⟨by omega, h2⟩]
      have hread := bufRead_bufEntries start xs (k - start)
      rw [show start + (k - start) = k by omega] at hread
      by_cases hl : ∃ x, (k, x) ∈ bufEntries start xs
      · rw [bufRead_append_listed _ _ _ hl, hread]
      · rw [bufRead_append_not_listed _ _ _ hl, hhigh, if_neg (by omega), ← hread, bufRead_of_not_listed _ _ hl]
    · have hno : ¬ ∃ x, (k, x) ∈ bufEntries start xs := by
        rintro ⟨x, hx⟩
        have := bufEntries_index _ _ _ _ hx
        omega
      rw [if_neg (by omega), bufRead_append_not_listed _ _ _ hno, hhigh, if_pos (by omega)]

theorem bufRead_bufStore_stored (b : Buf α) (start : Nat) (xs : List α) (k : Nat) (h : k < xs.length) :
    bufRead (bufStore b start xs) (start + k) = xs[k] := by
  rw [bufRead_bufStore, if_pos ⟨by omega, by omega⟩]
  simp [h]

theorem bufRead_bufStore_elsewhere (b : Buf α) (start : Nat) (xs : List α) (k : Nat)
    (h : k < start ∨ start + xs.length ≤ k) : bufRead (bufStore b start xs) k = bufRead b k := by
  rw [bufRead_bufStore, if_neg (by omega)]

/-- The canonical form, as a statement about the list: indices strictly rising, no unlisted value. -/
theorem bufWfFrom_iff (low : Nat) (b : Buf α) :
    bufWfFrom low b = true ↔
      b.Pairwise (fun e f => e.1 < f.1) ∧ ∀ e ∈ b, low ≤ e.1 ∧ e.2 ≠ unlisted := by
  induction b generalizing low with
  | nil => simp [bufWfFrom]
  | cons e rest ih =>
    obtain ⟨i, x⟩ := e
    simp only [bufWfFrom, Bool.and_eq_true, decide_eq_true_eq, ih, List.pairwise_cons, List.mem_cons]
    constructor
    · rintro ⟨⟨hlow, hx⟩, hpair, hall⟩
      refine ⟨⟨fun f hf => by have := hall f hf; omega, hpair⟩, ?_⟩
      rintro f (rfl | hf)
      · exact ⟨hlow, hx⟩
      · have := hall f hf
        exact ⟨by omega, this.2⟩
    · rintro ⟨⟨hfirst, hpair⟩, hall⟩
      have hi := hall (i, x) (Or.inl rfl)
      refine ⟨⟨hi.1, hi.2⟩, hpair, fun f hf => ⟨?_, (hall f (Or.inr hf)).2⟩⟩
      have := hfirst f hf
      omega

theorem bufWf_iff (b : Buf α) :
    bufWf b = true ↔ b.Pairwise (fun e f => e.1 < f.1) ∧ ∀ e ∈ b, e.2 ≠ unlisted := by
  simp [bufWf, bufWfFrom_iff]

theorem bufEntries_sorted (start : Nat) (xs : List α) :
    (bufEntries start xs).Pairwise (fun e f => e.1 < f.1) ∧ ∀ e ∈ bufEntries start xs, e.2 ≠ unlisted := by
  induction xs generalizing start with
  | nil => simp [bufEntries]
  | cons y ys ih =>
    unfold bufEntries
    split
    · exact ih (start + 1)
    · next hy =>
      refine ⟨List.pairwise_cons.mpr ⟨fun f hf => ?_, (ih (start + 1)).1⟩, ?_⟩
      · have := bufEntries_index (start + 1) ys f.1 f.2 hf
        simp only
        omega
      · intro e he
        rcases List.mem_cons.mp he with rfl | he
        · exact hy
        · exact (ih (start + 1)).2 e he

/-- A store keeps the canonical form. -/
theorem bufWf_bufStore (b : Buf α) (start : Nat) (xs : List α) (h : bufWf b = true) :
    bufWf (bufStore b start xs) = true := by
  rw [bufWf_iff] at h ⊢
  obtain ⟨hpair, hall⟩ := h
  obtain ⟨epair, eall⟩ := bufEntries_sorted start xs
  unfold bufStore
  constructor
  · rw [List.append_assoc, List.pairwise_append]
    refine ⟨hpair.filter _, List.pairwise_append.mpr ⟨epair, hpair.filter _, ?_⟩, ?_⟩
    · intro e he f hf
      have he := bufEntries_index start xs e.1 e.2 he
      simp only [List.mem_filter, decide_eq_true_eq] at hf
      omega
    · intro e he f hf
      simp only [List.mem_filter, decide_eq_true_eq] at he
      rcases List.mem_append.mp hf with hf | hf
      · have := bufEntries_index start xs f.1 f.2 hf
        omega
      · simp only [List.mem_filter, decide_eq_true_eq] at hf
        omega
  · intro e he
    rcases List.mem_append.mp he with he | he
    · rcases List.mem_append.mp he with he | he
      · exact hall e (List.mem_filter.mp he).1
      · exact eall e he
    · exact hall e (List.mem_filter.mp he).1

omit [DecidableEq α] in
theorem bufRead_listed (b : Buf α) (hpair : b.Pairwise (fun e f => e.1 < f.1)) (e : Nat × α) (he : e ∈ b) :
    bufRead b e.1 = e.2 := by
  induction b with
  | nil => simp at he
  | cons f rest ih =>
    obtain ⟨i, x⟩ := f
    rw [List.pairwise_cons] at hpair
    rcases List.mem_cons.mp he with rfl | he
    · simp [bufRead]
    · have := hpair.1 e he
      simp only at this
      have hne : i ≠ e.1 := by omega
      simp only [bufRead, if_neg hne]
      exact ih hpair.2 he

theorem mem_of_bufRead_eq (b c : Buf α) (hb : bufWf b = true) (h : ∀ k, bufRead b k = bufRead c k)
    (e : Nat × α) (he : e ∈ b) : e ∈ c := by
  rw [bufWf_iff] at hb
  have hread := bufRead_listed b hb.1 e he
  rw [h] at hread
  by_contra hno
  by_cases hlisted : ∃ x, (e.1, x) ∈ c
  · have : ∀ (d : Buf α) (v : α), bufRead d e.1 = v → (∃ x, (e.1, x) ∈ d) → (e.1, v) ∈ d := by
      intro d v hv hex
      induction d with
      | nil => simp at hex
      | cons f rest ih =>
        obtain ⟨i, x⟩ := f
        by_cases hi : i = e.1
        · simp only [bufRead, if_pos hi] at hv
          subst hv
          exact hi ▸ List.mem_cons_self
        · simp only [bufRead, if_neg hi] at hv
          obtain ⟨y, hy⟩ := hex
          rcases List.mem_cons.mp hy with hy | hy
          · exact absurd (Prod.mk.inj hy).1.symm hi
          · exact List.mem_cons_of_mem _ (ih hv ⟨y, hy⟩)
    exact hno (this c e.2 hread hlisted)
  · rw [bufRead_of_not_listed c e.1 hlisted] at hread
    exact hb.2 e he hread.symm

/-- Canonical buffers that read alike everywhere are equal data. -/
theorem bufWf_ext (b c : Buf α) (hb : bufWf b = true) (hc : bufWf c = true)
    (h : ∀ k, bufRead b k = bufRead c k) : b = c := by
  have hbp := ((bufWf_iff b).mp hb).1
  have hcp := ((bufWf_iff c).mp hc).1
  have hanti : ∀ e f : Nat × α, e.1 < f.1 → f.1 < e.1 → e = f := fun e f h1 h2 => by omega
  have hsub : ∀ e, e ∈ b ↔ e ∈ c := fun e =>
    ⟨mem_of_bufRead_eq b c hb h e, mem_of_bufRead_eq c b hc (fun k => (h k).symm) e⟩
  have hbn : b.Nodup := hbp.imp (fun {e f} hlt heq => by subst heq; omega)
  have hcn : c.Nodup := hcp.imp (fun {e f} hlt heq => by subst heq; omega)
  have hperm : b.Perm c := (List.perm_ext_iff_of_nodup hbn hcn).mpr hsub
  exact hperm.eq_of_pairwise (fun e f _ _ h1 h2 => hanti e f h1 h2) hbp hcp

end

theorem bufSlice_length {α : Type} [Inhabited α] (b : Buf α) (start n : Nat) : (bufSlice b start n).length = n := by
  simp [bufSlice]

theorem bufSlice_getElem {α : Type} [Inhabited α] (b : Buf α) (start n k : Nat) (h : k < (bufSlice b start n).length) :
    (bufSlice b start n)[k] = bufRead b (start + k) := by
  simp [bufSlice]

/-- The number of a bit list with one more bit at the end. -/
theorem bitsNat_snoc (bits : List Bool) (b : Bool) : bitsNat (bits ++ [b]) = 2 * bitsNat bits + b.toNat := by
  simp [bitsNat, List.foldl_append]

theorem bitsNat_nil : bitsNat [] = 0 := rfl

/-- n bits make a number below 2^n. -/
theorem bitsNat_lt (bits : List Bool) : bitsNat bits < 2 ^ bits.length := by
  induction bits using List.reverseRecOn with
  | nil => simp [bitsNat]
  | append_singleton bits b ih =>
    rw [bitsNat_snoc, List.length_append, List.length_singleton, pow_succ]
    cases b <;> simp <;> omega

end Sys2Proof.Machine
end

