-- ==== Sys2Proof/Laws/State.lean ====
section
/-! SUPPORT. What each named state update leaves in each field: one lemma per field per update, so that no proof unfolds
a record update. -/

namespace Sys2Proof.Machine

@[simp] theorem complete_busy (s : State) : (complete s).busy = false := rfl
@[simp] theorem complete_err (s : State) : (complete s).err = s.err := rfl
@[simp] theorem complete_overrun (s : State) : (complete s).overrun = s.overrun := rfl
@[simp] theorem complete_vValid (s : State) : (complete s).vValid = s.vValid := rfl
@[simp] theorem complete_fValid (s : State) : (complete s).fValid = s.fValid := rfl
@[simp] theorem complete_rValid (s : State) : (complete s).rValid = s.rValid := rfl
@[simp] theorem complete_mValid (s : State) : (complete s).mValid = s.mValid := rfl
@[simp] theorem complete_sstate (s : State) : (complete s).sstate = s.sstate := rfl
@[simp] theorem complete_errCode (s : State) : (complete s).errCode = s.errCode := rfl
@[simp] theorem complete_errInfo (s : State) : (complete s).errInfo = s.errInfo := rfl
@[simp] theorem complete_version (s : State) : (complete s).version = s.version := rfl
@[simp] theorem complete_ecl (s : State) : (complete s).ecl = s.ecl := rfl
@[simp] theorem complete_maskId (s : State) : (complete s).maskId = s.maskId := rfl
@[simp] theorem complete_side (s : State) : (complete s).side = s.side := rfl
@[simp] theorem complete_wdata (s : State) : (complete s).wdata = s.wdata := rfl
@[simp] theorem complete_rdata (s : State) : (complete s).rdata = s.rdata := rfl
@[simp] theorem complete_fmtS1 (s : State) : (complete s).fmtS1 = s.fmtS1 := rfl
@[simp] theorem complete_fmtS2 (s : State) : (complete s).fmtS2 = s.fmtS2 := rfl
@[simp] theorem complete_fmtResult (s : State) : (complete s).fmtResult = s.fmtResult := rfl
@[simp] theorem complete_rawLen (s : State) : (complete s).rawLen = s.rawLen := rfl
@[simp] theorem complete_rawPos (s : State) : (complete s).rawPos = s.rawPos := rfl
@[simp] theorem complete_msgLen (s : State) : (complete s).msgLen = s.msgLen := rfl
@[simp] theorem complete_msgPos (s : State) : (complete s).msgPos = s.msgPos := rfl
@[simp] theorem complete_rsNcorr (s : State) : (complete s).rsNcorr = s.rsNcorr := rfl
@[simp] theorem complete_segMode (s : State) : (complete s).segMode = s.segMode := rfl
@[simp] theorem complete_segCount (s : State) : (complete s).segCount = s.segCount := rfl
@[simp] theorem complete_outLen (s : State) : (complete s).outLen = s.outLen := rfl
@[simp] theorem complete_rawBuf (s : State) : (complete s).rawBuf = s.rawBuf := rfl
@[simp] theorem complete_msgBuf (s : State) : (complete s).msgBuf = s.msgBuf := rfl
@[simp] theorem complete_outBuf (s : State) : (complete s).outBuf = s.outBuf := rfl
@[simp] theorem complete_cmdl (s : State) : (complete s).cmdl = s.cmdl := rfl
@[simp] theorem complete_events (s : State) : (complete s).events = s.events := rfl
@[simp] theorem complete_latencies (s : State) : (complete s).latencies = s.latencies := rfl
@[simp] theorem complete_lag (s : State) : (complete s).lag = s.lag := rfl
@[simp] theorem complete_modules (s : State) : (complete s).modules = s.modules := rfl
@[simp] theorem complete_drift (s : State) : (complete s).drift = s.drift := rfl
@[simp] theorem complete_draws (s : State) : (complete s).draws = s.draws := rfl
@[simp] theorem complete_reply (s : State) : (complete s).reply = s.reply := rfl

@[simp] theorem raiseError_busy (e : CmdError) (s : State) : (raiseError e s).busy = false := rfl
@[simp] theorem raiseError_err (e : CmdError) (s : State) : (raiseError e s).err = true := rfl
@[simp] theorem raiseError_overrun (e : CmdError) (s : State) : (raiseError e s).overrun = s.overrun := rfl
@[simp] theorem raiseError_vValid (e : CmdError) (s : State) : (raiseError e s).vValid = s.vValid := rfl
@[simp] theorem raiseError_fValid (e : CmdError) (s : State) : (raiseError e s).fValid = s.fValid := rfl
@[simp] theorem raiseError_rValid (e : CmdError) (s : State) : (raiseError e s).rValid = s.rValid := rfl
@[simp] theorem raiseError_mValid (e : CmdError) (s : State) : (raiseError e s).mValid = s.mValid := rfl
@[simp] theorem raiseError_sstate (e : CmdError) (s : State) : (raiseError e s).sstate = s.sstate := rfl
@[simp] theorem raiseError_errCode (e : CmdError) (s : State) : (raiseError e s).errCode = e.code := rfl
@[simp] theorem raiseError_errInfo (e : CmdError) (s : State) : (raiseError e s).errInfo = e.info := rfl
@[simp] theorem raiseError_version (e : CmdError) (s : State) : (raiseError e s).version = s.version := rfl
@[simp] theorem raiseError_ecl (e : CmdError) (s : State) : (raiseError e s).ecl = s.ecl := rfl
@[simp] theorem raiseError_maskId (e : CmdError) (s : State) : (raiseError e s).maskId = s.maskId := rfl
@[simp] theorem raiseError_side (e : CmdError) (s : State) : (raiseError e s).side = s.side := rfl
@[simp] theorem raiseError_wdata (e : CmdError) (s : State) : (raiseError e s).wdata = s.wdata := rfl
@[simp] theorem raiseError_rdata (e : CmdError) (s : State) : (raiseError e s).rdata = s.rdata := rfl
@[simp] theorem raiseError_fmtS1 (e : CmdError) (s : State) : (raiseError e s).fmtS1 = s.fmtS1 := rfl
@[simp] theorem raiseError_fmtS2 (e : CmdError) (s : State) : (raiseError e s).fmtS2 = s.fmtS2 := rfl
@[simp] theorem raiseError_fmtResult (e : CmdError) (s : State) : (raiseError e s).fmtResult = s.fmtResult := rfl
@[simp] theorem raiseError_rawLen (e : CmdError) (s : State) : (raiseError e s).rawLen = s.rawLen := rfl
@[simp] theorem raiseError_rawPos (e : CmdError) (s : State) : (raiseError e s).rawPos = s.rawPos := rfl
@[simp] theorem raiseError_msgLen (e : CmdError) (s : State) : (raiseError e s).msgLen = s.msgLen := rfl
@[simp] theorem raiseError_msgPos (e : CmdError) (s : State) : (raiseError e s).msgPos = s.msgPos := rfl
@[simp] theorem raiseError_rsNcorr (e : CmdError) (s : State) : (raiseError e s).rsNcorr = s.rsNcorr := rfl
@[simp] theorem raiseError_segMode (e : CmdError) (s : State) : (raiseError e s).segMode = s.segMode := rfl
@[simp] theorem raiseError_segCount (e : CmdError) (s : State) : (raiseError e s).segCount = s.segCount := rfl
@[simp] theorem raiseError_outLen (e : CmdError) (s : State) : (raiseError e s).outLen = s.outLen := rfl
@[simp] theorem raiseError_rawBuf (e : CmdError) (s : State) : (raiseError e s).rawBuf = s.rawBuf := rfl
@[simp] theorem raiseError_msgBuf (e : CmdError) (s : State) : (raiseError e s).msgBuf = s.msgBuf := rfl
@[simp] theorem raiseError_outBuf (e : CmdError) (s : State) : (raiseError e s).outBuf = s.outBuf := rfl
@[simp] theorem raiseError_cmdl (e : CmdError) (s : State) : (raiseError e s).cmdl = s.cmdl := rfl
@[simp] theorem raiseError_events (e : CmdError) (s : State) : (raiseError e s).events = s.events := rfl
@[simp] theorem raiseError_latencies (e : CmdError) (s : State) : (raiseError e s).latencies = s.latencies := rfl
@[simp] theorem raiseError_lag (e : CmdError) (s : State) : (raiseError e s).lag = s.lag := rfl
@[simp] theorem raiseError_modules (e : CmdError) (s : State) : (raiseError e s).modules = s.modules := rfl
@[simp] theorem raiseError_drift (e : CmdError) (s : State) : (raiseError e s).drift = s.drift := rfl
@[simp] theorem raiseError_draws (e : CmdError) (s : State) : (raiseError e s).draws = s.draws := rfl
@[simp] theorem raiseError_reply (e : CmdError) (s : State) : (raiseError e s).reply = s.reply := rfl

@[simp] theorem clearError_busy (s : State) : (clearError s).busy = s.busy := rfl
@[simp] theorem clearError_err (s : State) : (clearError s).err = false := rfl
@[simp] theorem clearError_overrun (s : State) : (clearError s).overrun = false := rfl
@[simp] theorem clearError_vValid (s : State) : (clearError s).vValid = s.vValid := rfl
@[simp] theorem clearError_fValid (s : State) : (clearError s).fValid = s.fValid := rfl
@[simp] theorem clearError_rValid (s : State) : (clearError s).rValid = s.rValid := rfl
@[simp] theorem clearError_mValid (s : State) : (clearError s).mValid = s.mValid := rfl
@[simp] theorem clearError_sstate (s : State) : (clearError s).sstate = s.sstate := rfl
@[simp] theorem clearError_errCode (s : State) : (clearError s).errCode = .none := rfl
@[simp] theorem clearError_errInfo (s : State) : (clearError s).errInfo = 0#32 := rfl
@[simp] theorem clearError_version (s : State) : (clearError s).version = s.version := rfl
@[simp] theorem clearError_ecl (s : State) : (clearError s).ecl = s.ecl := rfl
@[simp] theorem clearError_maskId (s : State) : (clearError s).maskId = s.maskId := rfl
@[simp] theorem clearError_side (s : State) : (clearError s).side = s.side := rfl
@[simp] theorem clearError_wdata (s : State) : (clearError s).wdata = s.wdata := rfl
@[simp] theorem clearError_rdata (s : State) : (clearError s).rdata = s.rdata := rfl
@[simp] theorem clearError_fmtS1 (s : State) : (clearError s).fmtS1 = s.fmtS1 := rfl
@[simp] theorem clearError_fmtS2 (s : State) : (clearError s).fmtS2 = s.fmtS2 := rfl
@[simp] theorem clearError_fmtResult (s : State) : (clearError s).fmtResult = s.fmtResult := rfl
@[simp] theorem clearError_rawLen (s : State) : (clearError s).rawLen = s.rawLen := rfl
@[simp] theorem clearError_rawPos (s : State) : (clearError s).rawPos = s.rawPos := rfl
@[simp] theorem clearError_msgLen (s : State) : (clearError s).msgLen = s.msgLen := rfl
@[simp] theorem clearError_msgPos (s : State) : (clearError s).msgPos = s.msgPos := rfl
@[simp] theorem clearError_rsNcorr (s : State) : (clearError s).rsNcorr = s.rsNcorr := rfl
@[simp] theorem clearError_segMode (s : State) : (clearError s).segMode = s.segMode := rfl
@[simp] theorem clearError_segCount (s : State) : (clearError s).segCount = s.segCount := rfl
@[simp] theorem clearError_outLen (s : State) : (clearError s).outLen = s.outLen := rfl
@[simp] theorem clearError_rawBuf (s : State) : (clearError s).rawBuf = s.rawBuf := rfl
@[simp] theorem clearError_msgBuf (s : State) : (clearError s).msgBuf = s.msgBuf := rfl
@[simp] theorem clearError_outBuf (s : State) : (clearError s).outBuf = s.outBuf := rfl
@[simp] theorem clearError_cmdl (s : State) : (clearError s).cmdl = s.cmdl := rfl
@[simp] theorem clearError_events (s : State) : (clearError s).events = s.events := rfl
@[simp] theorem clearError_latencies (s : State) : (clearError s).latencies = s.latencies := rfl
@[simp] theorem clearError_lag (s : State) : (clearError s).lag = s.lag := rfl
@[simp] theorem clearError_modules (s : State) : (clearError s).modules = s.modules := rfl
@[simp] theorem clearError_drift (s : State) : (clearError s).drift = s.drift := rfl
@[simp] theorem clearError_draws (s : State) : (clearError s).draws = s.draws := rfl
@[simp] theorem clearError_reply (s : State) : (clearError s).reply = s.reply := rfl

@[simp] theorem clearSeg_busy (s : State) : (clearSeg s).busy = s.busy := rfl
@[simp] theorem clearSeg_err (s : State) : (clearSeg s).err = s.err := rfl
@[simp] theorem clearSeg_overrun (s : State) : (clearSeg s).overrun = s.overrun := rfl
@[simp] theorem clearSeg_vValid (s : State) : (clearSeg s).vValid = s.vValid := rfl
@[simp] theorem clearSeg_fValid (s : State) : (clearSeg s).fValid = s.fValid := rfl
@[simp] theorem clearSeg_rValid (s : State) : (clearSeg s).rValid = s.rValid := rfl
@[simp] theorem clearSeg_mValid (s : State) : (clearSeg s).mValid = s.mValid := rfl
@[simp] theorem clearSeg_sstate (s : State) : (clearSeg s).sstate = .idle := rfl
@[simp] theorem clearSeg_errCode (s : State) : (clearSeg s).errCode = s.errCode := rfl
@[simp] theorem clearSeg_errInfo (s : State) : (clearSeg s).errInfo = s.errInfo := rfl
@[simp] theorem clearSeg_version (s : State) : (clearSeg s).version = s.version := rfl
@[simp] theorem clearSeg_ecl (s : State) : (clearSeg s).ecl = s.ecl := rfl
@[simp] theorem clearSeg_maskId (s : State) : (clearSeg s).maskId = s.maskId := rfl
@[simp] theorem clearSeg_side (s : State) : (clearSeg s).side = s.side := rfl
@[simp] theorem clearSeg_wdata (s : State) : (clearSeg s).wdata = s.wdata := rfl
@[simp] theorem clearSeg_rdata (s : State) : (clearSeg s).rdata = s.rdata := rfl
@[simp] theorem clearSeg_fmtS1 (s : State) : (clearSeg s).fmtS1 = s.fmtS1 := rfl
@[simp] theorem clearSeg_fmtS2 (s : State) : (clearSeg s).fmtS2 = s.fmtS2 := rfl
@[simp] theorem clearSeg_fmtResult (s : State) : (clearSeg s).fmtResult = s.fmtResult := rfl
@[simp] theorem clearSeg_rawLen (s : State) : (clearSeg s).rawLen = s.rawLen := rfl
@[simp] theorem clearSeg_rawPos (s : State) : (clearSeg s).rawPos = s.rawPos := rfl
@[simp] theorem clearSeg_msgLen (s : State) : (clearSeg s).msgLen = s.msgLen := rfl
@[simp] theorem clearSeg_msgPos (s : State) : (clearSeg s).msgPos = s.msgPos := rfl
@[simp] theorem clearSeg_rsNcorr (s : State) : (clearSeg s).rsNcorr = s.rsNcorr := rfl
@[simp] theorem clearSeg_segMode (s : State) : (clearSeg s).segMode = 0#4 := rfl
@[simp] theorem clearSeg_segCount (s : State) : (clearSeg s).segCount = 0#16 := rfl
@[simp] theorem clearSeg_outLen (s : State) : (clearSeg s).outLen = 0#14 := rfl
@[simp] theorem clearSeg_rawBuf (s : State) : (clearSeg s).rawBuf = s.rawBuf := rfl
@[simp] theorem clearSeg_msgBuf (s : State) : (clearSeg s).msgBuf = s.msgBuf := rfl
@[simp] theorem clearSeg_outBuf (s : State) : (clearSeg s).outBuf = s.outBuf := rfl
@[simp] theorem clearSeg_cmdl (s : State) : (clearSeg s).cmdl = s.cmdl := rfl
@[simp] theorem clearSeg_events (s : State) : (clearSeg s).events = s.events := rfl
@[simp] theorem clearSeg_latencies (s : State) : (clearSeg s).latencies = s.latencies := rfl
@[simp] theorem clearSeg_lag (s : State) : (clearSeg s).lag = s.lag := rfl
@[simp] theorem clearSeg_modules (s : State) : (clearSeg s).modules = s.modules := rfl
@[simp] theorem clearSeg_drift (s : State) : (clearSeg s).drift = s.drift := rfl
@[simp] theorem clearSeg_draws (s : State) : (clearSeg s).draws = s.draws := rfl
@[simp] theorem clearSeg_reply (s : State) : (clearSeg s).reply = s.reply := rfl

@[simp] theorem clearMsg_busy (s : State) : (clearMsg s).busy = s.busy := rfl
@[simp] theorem clearMsg_err (s : State) : (clearMsg s).err = s.err := rfl
@[simp] theorem clearMsg_overrun (s : State) : (clearMsg s).overrun = s.overrun := rfl
@[simp] theorem clearMsg_vValid (s : State) : (clearMsg s).vValid = s.vValid := rfl
@[simp] theorem clearMsg_fValid (s : State) : (clearMsg s).fValid = s.fValid := rfl
@[simp] theorem clearMsg_rValid (s : State) : (clearMsg s).rValid = s.rValid := rfl
@[simp] theorem clearMsg_mValid (s : State) : (clearMsg s).mValid = false := rfl
@[simp] theorem clearMsg_sstate (s : State) : (clearMsg s).sstate = .idle := rfl
@[simp] theorem clearMsg_errCode (s : State) : (clearMsg s).errCode = s.errCode := rfl
@[simp] theorem clearMsg_errInfo (s : State) : (clearMsg s).errInfo = s.errInfo := rfl
@[simp] theorem clearMsg_version (s : State) : (clearMsg s).version = s.version := rfl
@[simp] theorem clearMsg_ecl (s : State) : (clearMsg s).ecl = s.ecl := rfl
@[simp] theorem clearMsg_maskId (s : State) : (clearMsg s).maskId = s.maskId := rfl
@[simp] theorem clearMsg_side (s : State) : (clearMsg s).side = s.side := rfl
@[simp] theorem clearMsg_wdata (s : State) : (clearMsg s).wdata = s.wdata := rfl
@[simp] theorem clearMsg_rdata (s : State) : (clearMsg s).rdata = s.rdata := rfl
@[simp] theorem clearMsg_fmtS1 (s : State) : (clearMsg s).fmtS1 = s.fmtS1 := rfl
@[simp] theorem clearMsg_fmtS2 (s : State) : (clearMsg s).fmtS2 = s.fmtS2 := rfl
@[simp] theorem clearMsg_fmtResult (s : State) : (clearMsg s).fmtResult = s.fmtResult := rfl
@[simp] theorem clearMsg_rawLen (s : State) : (clearMsg s).rawLen = s.rawLen := rfl
@[simp] theorem clearMsg_rawPos (s : State) : (clearMsg s).rawPos = s.rawPos := rfl
@[simp] theorem clearMsg_msgLen (s : State) : (clearMsg s).msgLen = 0#12 := rfl
@[simp] theorem clearMsg_msgPos (s : State) : (clearMsg s).msgPos = 0#15 := rfl
@[simp] theorem clearMsg_rsNcorr (s : State) : (clearMsg s).rsNcorr = 0#16 := rfl
@[simp] theorem clearMsg_segMode (s : State) : (clearMsg s).segMode = 0#4 := rfl
@[simp] theorem clearMsg_segCount (s : State) : (clearMsg s).segCount = 0#16 := rfl
@[simp] theorem clearMsg_outLen (s : State) : (clearMsg s).outLen = 0#14 := rfl
@[simp] theorem clearMsg_rawBuf (s : State) : (clearMsg s).rawBuf = s.rawBuf := rfl
@[simp] theorem clearMsg_msgBuf (s : State) : (clearMsg s).msgBuf = s.msgBuf := rfl
@[simp] theorem clearMsg_outBuf (s : State) : (clearMsg s).outBuf = s.outBuf := rfl
@[simp] theorem clearMsg_cmdl (s : State) : (clearMsg s).cmdl = s.cmdl := rfl
@[simp] theorem clearMsg_events (s : State) : (clearMsg s).events = s.events := rfl
@[simp] theorem clearMsg_latencies (s : State) : (clearMsg s).latencies = s.latencies := rfl
@[simp] theorem clearMsg_lag (s : State) : (clearMsg s).lag = s.lag := rfl
@[simp] theorem clearMsg_modules (s : State) : (clearMsg s).modules = s.modules := rfl
@[simp] theorem clearMsg_drift (s : State) : (clearMsg s).drift = s.drift := rfl
@[simp] theorem clearMsg_draws (s : State) : (clearMsg s).draws = s.draws := rfl
@[simp] theorem clearMsg_reply (s : State) : (clearMsg s).reply = s.reply := rfl

@[simp] theorem clearRaw_busy (s : State) : (clearRaw s).busy = s.busy := rfl
@[simp] theorem clearRaw_err (s : State) : (clearRaw s).err = s.err := rfl
@[simp] theorem clearRaw_overrun (s : State) : (clearRaw s).overrun = s.overrun := rfl
@[simp] theorem clearRaw_vValid (s : State) : (clearRaw s).vValid = s.vValid := rfl
@[simp] theorem clearRaw_fValid (s : State) : (clearRaw s).fValid = s.fValid := rfl
@[simp] theorem clearRaw_rValid (s : State) : (clearRaw s).rValid = false := rfl
@[simp] theorem clearRaw_mValid (s : State) : (clearRaw s).mValid = false := rfl
@[simp] theorem clearRaw_sstate (s : State) : (clearRaw s).sstate = .idle := rfl
@[simp] theorem clearRaw_errCode (s : State) : (clearRaw s).errCode = s.errCode := rfl
@[simp] theorem clearRaw_errInfo (s : State) : (clearRaw s).errInfo = s.errInfo := rfl
@[simp] theorem clearRaw_version (s : State) : (clearRaw s).version = s.version := rfl
@[simp] theorem clearRaw_ecl (s : State) : (clearRaw s).ecl = s.ecl := rfl
@[simp] theorem clearRaw_maskId (s : State) : (clearRaw s).maskId = s.maskId := rfl
@[simp] theorem clearRaw_side (s : State) : (clearRaw s).side = s.side := rfl
@[simp] theorem clearRaw_wdata (s : State) : (clearRaw s).wdata = s.wdata := rfl
@[simp] theorem clearRaw_rdata (s : State) : (clearRaw s).rdata = s.rdata := rfl
@[simp] theorem clearRaw_fmtS1 (s : State) : (clearRaw s).fmtS1 = s.fmtS1 := rfl
@[simp] theorem clearRaw_fmtS2 (s : State) : (clearRaw s).fmtS2 = s.fmtS2 := rfl
@[simp] theorem clearRaw_fmtResult (s : State) : (clearRaw s).fmtResult = s.fmtResult := rfl
@[simp] theorem clearRaw_rawLen (s : State) : (clearRaw s).rawLen = 0#15 := rfl
@[simp] theorem clearRaw_rawPos (s : State) : (clearRaw s).rawPos = 0#15 := rfl
@[simp] theorem clearRaw_msgLen (s : State) : (clearRaw s).msgLen = 0#12 := rfl
@[simp] theorem clearRaw_msgPos (s : State) : (clearRaw s).msgPos = 0#15 := rfl
@[simp] theorem clearRaw_rsNcorr (s : State) : (clearRaw s).rsNcorr = 0#16 := rfl
@[simp] theorem clearRaw_segMode (s : State) : (clearRaw s).segMode = 0#4 := rfl
@[simp] theorem clearRaw_segCount (s : State) : (clearRaw s).segCount = 0#16 := rfl
@[simp] theorem clearRaw_outLen (s : State) : (clearRaw s).outLen = 0#14 := rfl
@[simp] theorem clearRaw_rawBuf (s : State) : (clearRaw s).rawBuf = s.rawBuf := rfl
@[simp] theorem clearRaw_msgBuf (s : State) : (clearRaw s).msgBuf = s.msgBuf := rfl
@[simp] theorem clearRaw_outBuf (s : State) : (clearRaw s).outBuf = s.outBuf := rfl
@[simp] theorem clearRaw_cmdl (s : State) : (clearRaw s).cmdl = s.cmdl := rfl
@[simp] theorem clearRaw_events (s : State) : (clearRaw s).events = s.events := rfl
@[simp] theorem clearRaw_latencies (s : State) : (clearRaw s).latencies = s.latencies := rfl
@[simp] theorem clearRaw_lag (s : State) : (clearRaw s).lag = s.lag := rfl
@[simp] theorem clearRaw_modules (s : State) : (clearRaw s).modules = s.modules := rfl
@[simp] theorem clearRaw_drift (s : State) : (clearRaw s).drift = s.drift := rfl
@[simp] theorem clearRaw_draws (s : State) : (clearRaw s).draws = s.draws := rfl
@[simp] theorem clearRaw_reply (s : State) : (clearRaw s).reply = s.reply := rfl

@[simp] theorem clearFmt_busy (s : State) : (clearFmt s).busy = s.busy := rfl
@[simp] theorem clearFmt_err (s : State) : (clearFmt s).err = s.err := rfl
@[simp] theorem clearFmt_overrun (s : State) : (clearFmt s).overrun = s.overrun := rfl
@[simp] theorem clearFmt_vValid (s : State) : (clearFmt s).vValid = s.vValid := rfl
@[simp] theorem clearFmt_fValid (s : State) : (clearFmt s).fValid = false := rfl
@[simp] theorem clearFmt_rValid (s : State) : (clearFmt s).rValid = false := rfl
@[simp] theorem clearFmt_mValid (s : State) : (clearFmt s).mValid = false := rfl
@[simp] theorem clearFmt_sstate (s : State) : (clearFmt s).sstate = .idle := rfl
@[simp] theorem clearFmt_errCode (s : State) : (clearFmt s).errCode = s.errCode := rfl
@[simp] theorem clearFmt_errInfo (s : State) : (clearFmt s).errInfo = s.errInfo := rfl
@[simp] theorem clearFmt_version (s : State) : (clearFmt s).version = s.version := rfl
@[simp] theorem clearFmt_ecl (s : State) : (clearFmt s).ecl = 0#2 := rfl
@[simp] theorem clearFmt_maskId (s : State) : (clearFmt s).maskId = 0#3 := rfl
@[simp] theorem clearFmt_side (s : State) : (clearFmt s).side = s.side := rfl
@[simp] theorem clearFmt_wdata (s : State) : (clearFmt s).wdata = s.wdata := rfl
@[simp] theorem clearFmt_rdata (s : State) : (clearFmt s).rdata = s.rdata := rfl
@[simp] theorem clearFmt_fmtS1 (s : State) : (clearFmt s).fmtS1 = s.fmtS1 := rfl
@[simp] theorem clearFmt_fmtS2 (s : State) : (clearFmt s).fmtS2 = s.fmtS2 := rfl
@[simp] theorem clearFmt_fmtResult (s : State) : (clearFmt s).fmtResult = s.fmtResult := rfl
@[simp] theorem clearFmt_rawLen (s : State) : (clearFmt s).rawLen = 0#15 := rfl
@[simp] theorem clearFmt_rawPos (s : State) : (clearFmt s).rawPos = 0#15 := rfl
@[simp] theorem clearFmt_msgLen (s : State) : (clearFmt s).msgLen = 0#12 := rfl
@[simp] theorem clearFmt_msgPos (s : State) : (clearFmt s).msgPos = 0#15 := rfl
@[simp] theorem clearFmt_rsNcorr (s : State) : (clearFmt s).rsNcorr = 0#16 := rfl
@[simp] theorem clearFmt_segMode (s : State) : (clearFmt s).segMode = 0#4 := rfl
@[simp] theorem clearFmt_segCount (s : State) : (clearFmt s).segCount = 0#16 := rfl
@[simp] theorem clearFmt_outLen (s : State) : (clearFmt s).outLen = 0#14 := rfl
@[simp] theorem clearFmt_rawBuf (s : State) : (clearFmt s).rawBuf = s.rawBuf := rfl
@[simp] theorem clearFmt_msgBuf (s : State) : (clearFmt s).msgBuf = s.msgBuf := rfl
@[simp] theorem clearFmt_outBuf (s : State) : (clearFmt s).outBuf = s.outBuf := rfl
@[simp] theorem clearFmt_cmdl (s : State) : (clearFmt s).cmdl = s.cmdl := rfl
@[simp] theorem clearFmt_events (s : State) : (clearFmt s).events = s.events := rfl
@[simp] theorem clearFmt_latencies (s : State) : (clearFmt s).latencies = s.latencies := rfl
@[simp] theorem clearFmt_lag (s : State) : (clearFmt s).lag = s.lag := rfl
@[simp] theorem clearFmt_modules (s : State) : (clearFmt s).modules = s.modules := rfl
@[simp] theorem clearFmt_drift (s : State) : (clearFmt s).drift = s.drift := rfl
@[simp] theorem clearFmt_draws (s : State) : (clearFmt s).draws = s.draws := rfl
@[simp] theorem clearFmt_reply (s : State) : (clearFmt s).reply = s.reply := rfl

@[simp] theorem applyFormat_busy (d : BitVec 5) (s : State) : (applyFormat d s).busy = s.busy := rfl
@[simp] theorem applyFormat_err (d : BitVec 5) (s : State) : (applyFormat d s).err = s.err := rfl
@[simp] theorem applyFormat_overrun (d : BitVec 5) (s : State) : (applyFormat d s).overrun = s.overrun := rfl
@[simp] theorem applyFormat_vValid (d : BitVec 5) (s : State) : (applyFormat d s).vValid = s.vValid := rfl
@[simp] theorem applyFormat_fValid (d : BitVec 5) (s : State) : (applyFormat d s).fValid = true := rfl
@[simp] theorem applyFormat_rValid (d : BitVec 5) (s : State) : (applyFormat d s).rValid = false := rfl
@[simp] theorem applyFormat_mValid (d : BitVec 5) (s : State) : (applyFormat d s).mValid = false := rfl
@[simp] theorem applyFormat_sstate (d : BitVec 5) (s : State) : (applyFormat d s).sstate = .idle := rfl
@[simp] theorem applyFormat_errCode (d : BitVec 5) (s : State) : (applyFormat d s).errCode = s.errCode := rfl
@[simp] theorem applyFormat_errInfo (d : BitVec 5) (s : State) : (applyFormat d s).errInfo = s.errInfo := rfl
@[simp] theorem applyFormat_version (d : BitVec 5) (s : State) : (applyFormat d s).version = s.version := rfl
@[simp] theorem applyFormat_ecl (d : BitVec 5) (s : State) : (applyFormat d s).ecl = d.extractLsb' 3 2 := rfl
@[simp] theorem applyFormat_maskId (d : BitVec 5) (s : State) : (applyFormat d s).maskId = d.extractLsb' 0 3 := rfl
@[simp] theorem applyFormat_side (d : BitVec 5) (s : State) : (applyFormat d s).side = s.side := rfl
@[simp] theorem applyFormat_wdata (d : BitVec 5) (s : State) : (applyFormat d s).wdata = s.wdata := rfl
@[simp] theorem applyFormat_rdata (d : BitVec 5) (s : State) : (applyFormat d s).rdata = s.rdata := rfl
@[simp] theorem applyFormat_fmtS1 (d : BitVec 5) (s : State) : (applyFormat d s).fmtS1 = s.fmtS1 := rfl
@[simp] theorem applyFormat_fmtS2 (d : BitVec 5) (s : State) : (applyFormat d s).fmtS2 = s.fmtS2 := rfl
@[simp] theorem applyFormat_fmtResult (d : BitVec 5) (s : State) : (applyFormat d s).fmtResult = s.fmtResult := rfl
@[simp] theorem applyFormat_rawLen (d : BitVec 5) (s : State) : (applyFormat d s).rawLen = 0#15 := rfl
@[simp] theorem applyFormat_rawPos (d : BitVec 5) (s : State) : (applyFormat d s).rawPos = 0#15 := rfl
@[simp] theorem applyFormat_msgLen (d : BitVec 5) (s : State) : (applyFormat d s).msgLen = 0#12 := rfl
@[simp] theorem applyFormat_msgPos (d : BitVec 5) (s : State) : (applyFormat d s).msgPos = 0#15 := rfl
@[simp] theorem applyFormat_rsNcorr (d : BitVec 5) (s : State) : (applyFormat d s).rsNcorr = 0#16 := rfl
@[simp] theorem applyFormat_segMode (d : BitVec 5) (s : State) : (applyFormat d s).segMode = 0#4 := rfl
@[simp] theorem applyFormat_segCount (d : BitVec 5) (s : State) : (applyFormat d s).segCount = 0#16 := rfl
@[simp] theorem applyFormat_outLen (d : BitVec 5) (s : State) : (applyFormat d s).outLen = 0#14 := rfl
@[simp] theorem applyFormat_rawBuf (d : BitVec 5) (s : State) : (applyFormat d s).rawBuf = s.rawBuf := rfl
@[simp] theorem applyFormat_msgBuf (d : BitVec 5) (s : State) : (applyFormat d s).msgBuf = s.msgBuf := rfl
@[simp] theorem applyFormat_outBuf (d : BitVec 5) (s : State) : (applyFormat d s).outBuf = s.outBuf := rfl
@[simp] theorem applyFormat_cmdl (d : BitVec 5) (s : State) : (applyFormat d s).cmdl = s.cmdl := rfl
@[simp] theorem applyFormat_events (d : BitVec 5) (s : State) : (applyFormat d s).events = s.events := rfl
@[simp] theorem applyFormat_latencies (d : BitVec 5) (s : State) : (applyFormat d s).latencies = s.latencies := rfl
@[simp] theorem applyFormat_lag (d : BitVec 5) (s : State) : (applyFormat d s).lag = s.lag := rfl
@[simp] theorem applyFormat_modules (d : BitVec 5) (s : State) : (applyFormat d s).modules = s.modules := rfl
@[simp] theorem applyFormat_drift (d : BitVec 5) (s : State) : (applyFormat d s).drift = s.drift := rfl
@[simp] theorem applyFormat_draws (d : BitVec 5) (s : State) : (applyFormat d s).draws = s.draws := rfl
@[simp] theorem applyFormat_reply (d : BitVec 5) (s : State) : (applyFormat d s).reply = s.reply := rfl

@[simp] theorem configureVersion_busy (v : Nat) (s : State) : (configureVersion v s).busy = s.busy := rfl
@[simp] theorem configureVersion_err (v : Nat) (s : State) : (configureVersion v s).err = s.err := rfl
@[simp] theorem configureVersion_overrun (v : Nat) (s : State) : (configureVersion v s).overrun = s.overrun := rfl
@[simp] theorem configureVersion_vValid (v : Nat) (s : State) : (configureVersion v s).vValid = true := rfl
@[simp] theorem configureVersion_fValid (v : Nat) (s : State) : (configureVersion v s).fValid = false := rfl
@[simp] theorem configureVersion_rValid (v : Nat) (s : State) : (configureVersion v s).rValid = false := rfl
@[simp] theorem configureVersion_mValid (v : Nat) (s : State) : (configureVersion v s).mValid = false := rfl
@[simp] theorem configureVersion_sstate (v : Nat) (s : State) : (configureVersion v s).sstate = .idle := rfl
@[simp] theorem configureVersion_errCode (v : Nat) (s : State) : (configureVersion v s).errCode = s.errCode := rfl
@[simp] theorem configureVersion_errInfo (v : Nat) (s : State) : (configureVersion v s).errInfo = s.errInfo := rfl
@[simp] theorem configureVersion_version (v : Nat) (s : State) : (configureVersion v s).version = BitVec.ofNat 6 v := rfl
@[simp] theorem configureVersion_ecl (v : Nat) (s : State) : (configureVersion v s).ecl = 0#2 := rfl
@[simp] theorem configureVersion_maskId (v : Nat) (s : State) : (configureVersion v s).maskId = 0#3 := rfl
@[simp] theorem configureVersion_side (v : Nat) (s : State) : (configureVersion v s).side = BitVec.ofNat 8 (sideOf v) := rfl
@[simp] theorem configureVersion_wdata (v : Nat) (s : State) : (configureVersion v s).wdata = s.wdata := rfl
@[simp] theorem configureVersion_rdata (v : Nat) (s : State) : (configureVersion v s).rdata = s.rdata := rfl
@[simp] theorem configureVersion_fmtS1 (v : Nat) (s : State) : (configureVersion v s).fmtS1 = s.fmtS1 := rfl
@[simp] theorem configureVersion_fmtS2 (v : Nat) (s : State) : (configureVersion v s).fmtS2 = s.fmtS2 := rfl
@[simp] theorem configureVersion_fmtResult (v : Nat) (s : State) : (configureVersion v s).fmtResult = s.fmtResult := rfl
@[simp] theorem configureVersion_rawLen (v : Nat) (s : State) : (configureVersion v s).rawLen = 0#15 := rfl
@[simp] theorem configureVersion_rawPos (v : Nat) (s : State) : (configureVersion v s).rawPos = 0#15 := rfl
@[simp] theorem configureVersion_msgLen (v : Nat) (s : State) : (configureVersion v s).msgLen = 0#12 := rfl
@[simp] theorem configureVersion_msgPos (v : Nat) (s : State) : (configureVersion v s).msgPos = 0#15 := rfl
@[simp] theorem configureVersion_rsNcorr (v : Nat) (s : State) : (configureVersion v s).rsNcorr = 0#16 := rfl
@[simp] theorem configureVersion_segMode (v : Nat) (s : State) : (configureVersion v s).segMode = 0#4 := rfl
@[simp] theorem configureVersion_segCount (v : Nat) (s : State) : (configureVersion v s).segCount = 0#16 := rfl
@[simp] theorem configureVersion_outLen (v : Nat) (s : State) : (configureVersion v s).outLen = 0#14 := rfl
@[simp] theorem configureVersion_rawBuf (v : Nat) (s : State) : (configureVersion v s).rawBuf = s.rawBuf := rfl
@[simp] theorem configureVersion_msgBuf (v : Nat) (s : State) : (configureVersion v s).msgBuf = s.msgBuf := rfl
@[simp] theorem configureVersion_outBuf (v : Nat) (s : State) : (configureVersion v s).outBuf = s.outBuf := rfl
@[simp] theorem configureVersion_cmdl (v : Nat) (s : State) : (configureVersion v s).cmdl = s.cmdl := rfl
@[simp] theorem configureVersion_events (v : Nat) (s : State) : (configureVersion v s).events = s.events := rfl
@[simp] theorem configureVersion_latencies (v : Nat) (s : State) : (configureVersion v s).latencies = s.latencies := rfl
@[simp] theorem configureVersion_lag (v : Nat) (s : State) : (configureVersion v s).lag = s.lag := rfl
@[simp] theorem configureVersion_modules (v : Nat) (s : State) : (configureVersion v s).modules = s.modules := rfl
@[simp] theorem configureVersion_drift (v : Nat) (s : State) : (configureVersion v s).drift = s.drift := rfl
@[simp] theorem configureVersion_draws (v : Nat) (s : State) : (configureVersion v s).draws = s.draws := rfl
@[simp] theorem configureVersion_reply (v : Nat) (s : State) : (configureVersion v s).reply = s.reply := rfl

@[simp] theorem latchCommand_busy (w : Word) (s : State) : (latchCommand w s).busy = true := rfl
@[simp] theorem latchCommand_err (w : Word) (s : State) : (latchCommand w s).err = s.err := rfl
@[simp] theorem latchCommand_overrun (w : Word) (s : State) : (latchCommand w s).overrun = s.overrun := rfl
@[simp] theorem latchCommand_vValid (w : Word) (s : State) : (latchCommand w s).vValid = s.vValid := rfl
@[simp] theorem latchCommand_fValid (w : Word) (s : State) : (latchCommand w s).fValid = s.fValid := rfl
@[simp] theorem latchCommand_rValid (w : Word) (s : State) : (latchCommand w s).rValid = s.rValid := rfl
@[simp] theorem latchCommand_mValid (w : Word) (s : State) : (latchCommand w s).mValid = s.mValid := rfl
@[simp] theorem latchCommand_sstate (w : Word) (s : State) : (latchCommand w s).sstate = s.sstate := rfl
@[simp] theorem latchCommand_errCode (w : Word) (s : State) : (latchCommand w s).errCode = s.errCode := rfl
@[simp] theorem latchCommand_errInfo (w : Word) (s : State) : (latchCommand w s).errInfo = s.errInfo := rfl
@[simp] theorem latchCommand_version (w : Word) (s : State) : (latchCommand w s).version = s.version := rfl
@[simp] theorem latchCommand_ecl (w : Word) (s : State) : (latchCommand w s).ecl = s.ecl := rfl
@[simp] theorem latchCommand_maskId (w : Word) (s : State) : (latchCommand w s).maskId = s.maskId := rfl
@[simp] theorem latchCommand_side (w : Word) (s : State) : (latchCommand w s).side = s.side := rfl
@[simp] theorem latchCommand_wdata (w : Word) (s : State) : (latchCommand w s).wdata = s.wdata := rfl
@[simp] theorem latchCommand_rdata (w : Word) (s : State) : (latchCommand w s).rdata = s.rdata := rfl
@[simp] theorem latchCommand_fmtS1 (w : Word) (s : State) : (latchCommand w s).fmtS1 = s.fmtS1 := rfl
@[simp] theorem latchCommand_fmtS2 (w : Word) (s : State) : (latchCommand w s).fmtS2 = s.fmtS2 := rfl
@[simp] theorem latchCommand_fmtResult (w : Word) (s : State) : (latchCommand w s).fmtResult = s.fmtResult := rfl
@[simp] theorem latchCommand_rawLen (w : Word) (s : State) : (latchCommand w s).rawLen = s.rawLen := rfl
@[simp] theorem latchCommand_rawPos (w : Word) (s : State) : (latchCommand w s).rawPos = s.rawPos := rfl
@[simp] theorem latchCommand_msgLen (w : Word) (s : State) : (latchCommand w s).msgLen = s.msgLen := rfl
@[simp] theorem latchCommand_msgPos (w : Word) (s : State) : (latchCommand w s).msgPos = s.msgPos := rfl
@[simp] theorem latchCommand_rsNcorr (w : Word) (s : State) : (latchCommand w s).rsNcorr = s.rsNcorr := rfl
@[simp] theorem latchCommand_segMode (w : Word) (s : State) : (latchCommand w s).segMode = s.segMode := rfl
@[simp] theorem latchCommand_segCount (w : Word) (s : State) : (latchCommand w s).segCount = s.segCount := rfl
@[simp] theorem latchCommand_outLen (w : Word) (s : State) : (latchCommand w s).outLen = s.outLen := rfl
@[simp] theorem latchCommand_rawBuf (w : Word) (s : State) : (latchCommand w s).rawBuf = s.rawBuf := rfl
@[simp] theorem latchCommand_msgBuf (w : Word) (s : State) : (latchCommand w s).msgBuf = s.msgBuf := rfl
@[simp] theorem latchCommand_outBuf (w : Word) (s : State) : (latchCommand w s).outBuf = s.outBuf := rfl
@[simp] theorem latchCommand_cmdl (w : Word) (s : State) : (latchCommand w s).cmdl = w := rfl
@[simp] theorem latchCommand_events (w : Word) (s : State) : (latchCommand w s).events = s.events := rfl
@[simp] theorem latchCommand_latencies (w : Word) (s : State) : (latchCommand w s).latencies = s.latencies := rfl
@[simp] theorem latchCommand_lag (w : Word) (s : State) : (latchCommand w s).lag = s.lag := rfl
@[simp] theorem latchCommand_modules (w : Word) (s : State) : (latchCommand w s).modules = s.modules := rfl
@[simp] theorem latchCommand_drift (w : Word) (s : State) : (latchCommand w s).drift = false := rfl
@[simp] theorem latchCommand_draws (w : Word) (s : State) : (latchCommand w s).draws = s.draws + 1 := rfl
@[simp] theorem latchCommand_reply (w : Word) (s : State) : (latchCommand w s).reply = s.reply := rfl

@[simp] theorem dropPayload_busy (s : State) : (dropPayload s).busy = s.busy := rfl
@[simp] theorem dropPayload_err (s : State) : (dropPayload s).err = s.err := rfl
@[simp] theorem dropPayload_overrun (s : State) : (dropPayload s).overrun = s.overrun := rfl
@[simp] theorem dropPayload_vValid (s : State) : (dropPayload s).vValid = s.vValid := rfl
@[simp] theorem dropPayload_fValid (s : State) : (dropPayload s).fValid = s.fValid := rfl
@[simp] theorem dropPayload_rValid (s : State) : (dropPayload s).rValid = s.rValid := rfl
@[simp] theorem dropPayload_mValid (s : State) : (dropPayload s).mValid = s.mValid := rfl
@[simp] theorem dropPayload_sstate (s : State) : (dropPayload s).sstate = s.sstate := rfl
@[simp] theorem dropPayload_errCode (s : State) : (dropPayload s).errCode = s.errCode := rfl
@[simp] theorem dropPayload_errInfo (s : State) : (dropPayload s).errInfo = s.errInfo := rfl
@[simp] theorem dropPayload_version (s : State) : (dropPayload s).version = s.version := rfl
@[simp] theorem dropPayload_ecl (s : State) : (dropPayload s).ecl = s.ecl := rfl
@[simp] theorem dropPayload_maskId (s : State) : (dropPayload s).maskId = s.maskId := rfl
@[simp] theorem dropPayload_side (s : State) : (dropPayload s).side = s.side := rfl
@[simp] theorem dropPayload_wdata (s : State) : (dropPayload s).wdata = s.wdata := rfl
@[simp] theorem dropPayload_rdata (s : State) : (dropPayload s).rdata = s.rdata := rfl
@[simp] theorem dropPayload_fmtS1 (s : State) : (dropPayload s).fmtS1 = s.fmtS1 := rfl
@[simp] theorem dropPayload_fmtS2 (s : State) : (dropPayload s).fmtS2 = s.fmtS2 := rfl
@[simp] theorem dropPayload_fmtResult (s : State) : (dropPayload s).fmtResult = s.fmtResult := rfl
@[simp] theorem dropPayload_rawLen (s : State) : (dropPayload s).rawLen = s.rawLen := rfl
@[simp] theorem dropPayload_rawPos (s : State) : (dropPayload s).rawPos = s.rawPos := rfl
@[simp] theorem dropPayload_msgLen (s : State) : (dropPayload s).msgLen = s.msgLen := rfl
@[simp] theorem dropPayload_msgPos (s : State) : (dropPayload s).msgPos = s.msgPos := rfl
@[simp] theorem dropPayload_rsNcorr (s : State) : (dropPayload s).rsNcorr = s.rsNcorr := rfl
@[simp] theorem dropPayload_segMode (s : State) : (dropPayload s).segMode = s.segMode := rfl
@[simp] theorem dropPayload_segCount (s : State) : (dropPayload s).segCount = s.segCount := rfl
@[simp] theorem dropPayload_outLen (s : State) : (dropPayload s).outLen = 0#14 := rfl
@[simp] theorem dropPayload_rawBuf (s : State) : (dropPayload s).rawBuf = s.rawBuf := rfl
@[simp] theorem dropPayload_msgBuf (s : State) : (dropPayload s).msgBuf = s.msgBuf := rfl
@[simp] theorem dropPayload_outBuf (s : State) : (dropPayload s).outBuf = s.outBuf := rfl
@[simp] theorem dropPayload_cmdl (s : State) : (dropPayload s).cmdl = s.cmdl := rfl
@[simp] theorem dropPayload_events (s : State) : (dropPayload s).events = s.events := rfl
@[simp] theorem dropPayload_latencies (s : State) : (dropPayload s).latencies = s.latencies := rfl
@[simp] theorem dropPayload_lag (s : State) : (dropPayload s).lag = s.lag := rfl
@[simp] theorem dropPayload_modules (s : State) : (dropPayload s).modules = s.modules := rfl
@[simp] theorem dropPayload_drift (s : State) : (dropPayload s).drift = s.drift := rfl
@[simp] theorem dropPayload_draws (s : State) : (dropPayload s).draws = s.draws := rfl
@[simp] theorem dropPayload_reply (s : State) : (dropPayload s).reply = s.reply := rfl

@[simp] theorem resetBlock_busy (s : State) : (resetBlock s).busy = State.reset.busy := rfl
@[simp] theorem resetBlock_err (s : State) : (resetBlock s).err = State.reset.err := rfl
@[simp] theorem resetBlock_overrun (s : State) : (resetBlock s).overrun = State.reset.overrun := rfl
@[simp] theorem resetBlock_vValid (s : State) : (resetBlock s).vValid = State.reset.vValid := rfl
@[simp] theorem resetBlock_fValid (s : State) : (resetBlock s).fValid = State.reset.fValid := rfl
@[simp] theorem resetBlock_rValid (s : State) : (resetBlock s).rValid = State.reset.rValid := rfl
@[simp] theorem resetBlock_mValid (s : State) : (resetBlock s).mValid = State.reset.mValid := rfl
@[simp] theorem resetBlock_sstate (s : State) : (resetBlock s).sstate = State.reset.sstate := rfl
@[simp] theorem resetBlock_errCode (s : State) : (resetBlock s).errCode = State.reset.errCode := rfl
@[simp] theorem resetBlock_errInfo (s : State) : (resetBlock s).errInfo = State.reset.errInfo := rfl
@[simp] theorem resetBlock_version (s : State) : (resetBlock s).version = State.reset.version := rfl
@[simp] theorem resetBlock_ecl (s : State) : (resetBlock s).ecl = State.reset.ecl := rfl
@[simp] theorem resetBlock_maskId (s : State) : (resetBlock s).maskId = State.reset.maskId := rfl
@[simp] theorem resetBlock_side (s : State) : (resetBlock s).side = State.reset.side := rfl
@[simp] theorem resetBlock_wdata (s : State) : (resetBlock s).wdata = State.reset.wdata := rfl
@[simp] theorem resetBlock_rdata (s : State) : (resetBlock s).rdata = State.reset.rdata := rfl
@[simp] theorem resetBlock_fmtS1 (s : State) : (resetBlock s).fmtS1 = State.reset.fmtS1 := rfl
@[simp] theorem resetBlock_fmtS2 (s : State) : (resetBlock s).fmtS2 = State.reset.fmtS2 := rfl
@[simp] theorem resetBlock_fmtResult (s : State) : (resetBlock s).fmtResult = State.reset.fmtResult := rfl
@[simp] theorem resetBlock_rawLen (s : State) : (resetBlock s).rawLen = State.reset.rawLen := rfl
@[simp] theorem resetBlock_rawPos (s : State) : (resetBlock s).rawPos = State.reset.rawPos := rfl
@[simp] theorem resetBlock_msgLen (s : State) : (resetBlock s).msgLen = State.reset.msgLen := rfl
@[simp] theorem resetBlock_msgPos (s : State) : (resetBlock s).msgPos = State.reset.msgPos := rfl
@[simp] theorem resetBlock_rsNcorr (s : State) : (resetBlock s).rsNcorr = State.reset.rsNcorr := rfl
@[simp] theorem resetBlock_segMode (s : State) : (resetBlock s).segMode = State.reset.segMode := rfl
@[simp] theorem resetBlock_segCount (s : State) : (resetBlock s).segCount = State.reset.segCount := rfl
@[simp] theorem resetBlock_outLen (s : State) : (resetBlock s).outLen = State.reset.outLen := rfl
@[simp] theorem resetBlock_rawBuf (s : State) : (resetBlock s).rawBuf = State.reset.rawBuf := rfl
@[simp] theorem resetBlock_msgBuf (s : State) : (resetBlock s).msgBuf = State.reset.msgBuf := rfl
@[simp] theorem resetBlock_outBuf (s : State) : (resetBlock s).outBuf = State.reset.outBuf := rfl
@[simp] theorem resetBlock_cmdl (s : State) : (resetBlock s).cmdl = State.reset.cmdl := rfl
@[simp] theorem resetBlock_events (s : State) : (resetBlock s).events = s.events := rfl
@[simp] theorem resetBlock_latencies (s : State) : (resetBlock s).latencies = s.latencies := rfl
@[simp] theorem resetBlock_lag (s : State) : (resetBlock s).lag = State.reset.lag := rfl
@[simp] theorem resetBlock_modules (s : State) : (resetBlock s).modules = s.modules := rfl
@[simp] theorem resetBlock_drift (s : State) : (resetBlock s).drift = State.reset.drift := rfl
@[simp] theorem resetBlock_draws (s : State) : (resetBlock s).draws = s.draws := rfl
@[simp] theorem resetBlock_reply (s : State) : (resetBlock s).reply = s.reply := rfl

end Sys2Proof.Machine
end

