-- ==== Sys2Proof/Laws/Ops.lean ====
section
/-! SUPPORT. One lemma for each shared operation of the commands: all it can do, so that a proof cites it instead of
unfolding the operation. -/

namespace Sys2Proof.Machine

/-- The end of a command is a next state: completed, or with the error recorded. -/
theorem finish_next_iff (r : Result) (t : State) :
    finish r = .next t ↔ (∃ s, r = .done s ∧ t = complete s) ∨ (∃ e s, r = .failed e s ∧ t = raiseError e s) := by
  cases r with
  | done s => simp [finish, eq_comm]
  | failed e s => simp [finish, eq_comm]

@[simp] theorem finish_done (s : State) : finish (.done s) = .next (complete s) := rfl

@[simp] theorem finish_failed (e : CmdError) (s : State) : finish (.failed e s) = .next (raiseError e s) := rfl

/-- No command stops the machine. -/
theorem finish_is_next (r : Result) : ∃ t, finish r = .next t := by
  cases r <;> exact ⟨_, rfl⟩

@[simp] theorem andThen_done (s : State) (f : State → Result) : (Result.done s).andThen f = f s := rfl

@[simp] theorem andThen_failed (e : CmdError) (s : State) (f : State → Result) :
    (Result.failed e s).andThen f = .failed e s := rfl

theorem andThen_done_iff (r : Result) (f : State → Result) (t : State) :
    r.andThen f = .done t ↔ ∃ s, r = .done s ∧ f s = .done t := by
  cases r <;> simp

theorem andThen_failed_iff (r : Result) (f : State → Result) (e : CmdError) (t : State) :
    r.andThen f = .failed e t ↔ r = .failed e t ∨ ∃ s, r = .done s ∧ f s = .failed e t := by
  cases r <;> simp

@[simp] theorem require_true (s : State) (body : Result) : require true s body = body := rfl

@[simp] theorem require_false (s : State) (body : Result) :
    require false s body = .failed ⟨.sequence, s.cmdl⟩ s := rfl

theorem require_cases (ready : Bool) (s : State) (body : Result) :
    (ready = true ∧ require ready s body = body) ∨
    (ready = false ∧ require ready s body = .failed ⟨.sequence, s.cmdl⟩ s) := by
  cases ready <;> simp

theorem checkCount_cases (n : BitVec 6) (s : State) (body : Result) :
    (n.toNat ≤ 32 ∧ checkCount n s body = body) ∨
    (32 < n.toNat ∧ checkCount n s body = .failed ⟨.illegalCommand, s.cmdl⟩ s) := by
  by_cases h : n.toNat ≤ 32
  · exact Or.inl ⟨h, by simp [checkCount, countLegal, Config.readMax, h]⟩
  · exact Or.inr ⟨by omega, by simp [checkCount, countLegal, Config.readMax, h, illegalCommand]⟩

/-- A CMD write is dropped with OVERRUN, or latched. -/
theorem submitCommand_cases (w : Word) (s : State) :
    ((s.busy = true ∨ s.err = true) ∧ submitCommand w s = { s with overrun := true }) ∨
    (s.busy = false ∧ s.err = false ∧
      submitCommand w s = { latchCommand w s with lag := s.latencies.headD 0, latencies := s.latencies.tail }) := by
  unfold submitCommand
  cases hb : s.busy <;> cases he : s.err <;> simp

theorem moduleRead_stable (s : State) (x y : Nat) (h : s.drift = false) : moduleRead s x y = gridBit s.modules x y := by
  simp [moduleRead, h]

/-! The parameters of 00_scope.md R9 that are widths or counts of a type. -/

theorem fmtBits_split : Config.fmtBits = Config.fmtDataBits + Config.fmtRemainderBits := rfl

/-- The widths the model writes as numerals are those of the parameters. -/
theorem format_widths : BitVec 15 = BitVec Config.fmtBits ∧ BitVec 5 = BitVec Config.fmtDataBits ∧
    BitVec 10 = BitVec Config.fmtRemainderBits ∧ BitVec 2 = BitVec Config.ecLevelBits ∧
    BitVec 3 = BitVec Config.maskIdBits := ⟨rfl, rfl, rfl, rfl, rfl⟩

theorem levels_length : levels.length = Config.ecLevels := rfl

theorem levels_complete (l : Level) : l ∈ levels := by
  cases l <;> decide

theorem levelOf_onto (l : Level) : ∃ e : BitVec Config.ecLevelBits, levelOf e = l := by
  cases l
  · exact ⟨0b01#2, by decide⟩
  · exact ⟨0b00#2, by decide⟩
  · exact ⟨0b11#2, by decide⟩
  · exact ⟨0b10#2, by decide⟩

theorem mem_maskIds (n : Nat) : n ∈ Config.maskIds ↔ ∃ m : BitVec Config.maskIdBits, m.toNat = n := by
  simp only [Config.maskIds, List.mem_range]
  exact ⟨fun h => ⟨BitVec.ofNat _ n, Nat.mod_eq_of_lt h⟩, fun ⟨m, h⟩ => h ▸ m.isLt⟩

/-! The nearest-codeword search. -/

theorem formatValues_complete (d : BitVec 5) : d ∈ formatValues := by
  revert d
  decide

theorem foldl_min_le (xs : List Nat) (a : Nat) :
    xs.foldl Nat.min a ≤ a ∧ (∀ x ∈ xs, xs.foldl Nat.min a ≤ x) ∧
      (xs.foldl Nat.min a = a ∨ xs.foldl Nat.min a ∈ xs) := by
  induction xs generalizing a with
  | nil => simp
  | cons y ys ih =>
    obtain ⟨h1, h2, h3⟩ := ih (Nat.min a y)
    have ha : Nat.min a y ≤ a := Nat.min_le_left a y
    have hy : Nat.min a y ≤ y := Nat.min_le_right a y
    refine ⟨le_trans h1 ha, ?_, ?_⟩
    · intro x hx
      rcases List.mem_cons.mp hx with rfl | hx
      · exact le_trans h1 hy
      · exact h2 x hx
    · rcases h3 with h3 | h3
      · rcases Nat.le_total a y with h | h
        · left
          simpa [Nat.min_eq_left h] using h3
        · right
          have hm : Nat.min a y = y := Nat.min_eq_right h
          rw [hm] at h3
          rw [List.foldl_cons, hm, h3]
          exact List.mem_cons_self
      · exact Or.inr (List.mem_cons_of_mem _ h3)

/-- The minimum distance is attained, and no value is nearer. -/
theorem minDistance_spec (dist : BitVec 5 → Nat) :
    (∃ d, dist d = minDistance dist) ∧ ∀ d, minDistance dist ≤ dist d := by
  obtain ⟨_, h2, h3⟩ := foldl_min_le (formatValues.map dist) (dist 0#5)
  constructor
  · rcases h3 with h3 | h3
    · exact ⟨0#5, h3.symm⟩
    · obtain ⟨d, _, hd⟩ := List.mem_map.mp h3
      exact ⟨d, hd⟩
  · intro d
    exact h2 _ (List.mem_map.mpr ⟨d, formatValues_complete d, rfl⟩)

theorem candidates_iff (dist : BitVec 5 → Nat) (m : Nat) (d : BitVec 5) : d ∈ candidates dist m ↔ dist d = m := by
  simp [candidates, formatValues_complete]

/-- If the search answers a value, it is the one nearest value and within the budget. -/
theorem nearest_ok (dist : BitVec 5 → Nat) (budget : Nat) (d : BitVec 5) (m : Nat)
    (h : nearest dist budget = .ok (d, m)) :
    dist d = m ∧ m ≤ budget ∧ ∀ d', d' ≠ d → m < dist d' := by
  have hc := candidates_iff dist (minDistance dist)
  have hmin := (minDistance_spec dist).2
  unfold nearest at h
  dsimp only at h
  split at h
  next d0 heq =>
    rw [heq] at hc
    split at h
    · cases h
    · injection h with h
      injection h with h1 h2
      subst h1
      have hd : dist d0 = minDistance dist := (hc d0).mp (by simp)
      refine ⟨by omega, by omega, fun d' hne => ?_⟩
      have hle := hmin d'
      have hnot : dist d' ≠ minDistance dist := fun heq' => hne (by simpa using (hc d').mpr heq')
      omega
  · cases h

/-- If the search fails, it raises FORMAT_CORRUPT. -/
theorem nearest_error (dist : BitVec 5 → Nat) (budget : Nat) (e : CmdError) (h : nearest dist budget = .error e) :
    e.code = .formatCorrupt := by
  unfold nearest at h
  dsimp only at h
  split at h
  · split at h
    · cases h
      rfl
    · cases h
  · cases h
    rfl

/-- A value nearer than every other, within the budget, is what the search answers. -/
theorem nearest_of_unique (dist : BitVec 5 → Nat) (budget : Nat) (d : BitVec 5) (hb : dist d ≤ budget)
    (hu : ∀ d', d' ≠ d → dist d < dist d') : nearest dist budget = .ok (d, dist d) := by
  have hmin : minDistance dist = dist d := by
    obtain ⟨⟨d0, hd0⟩, hle⟩ := minDistance_spec dist
    by_cases h : d0 = d
    · rw [← hd0, h]
    · have h1 := hu d0 h
      have h2 := hle d
      omega
  have hone : candidates dist (dist d) = [d] := by
    have hnodup : (candidates dist (dist d)).Nodup := List.Nodup.filter _ (by decide)
    have hall : ∀ x, x ∈ candidates dist (dist d) ↔ x ∈ [d] := by
      intro x
      rw [candidates_iff, List.mem_singleton]
      constructor
      · intro hx
        by_contra hne
        have := hu x hne
        omega
      · rintro rfl
        rfl
    exact List.perm_singleton.mp ((List.perm_ext_iff_of_nodup hnodup (by simp)).mpr hall)
  unfold nearest
  dsimp only
  rw [hmin, hone]
  simp [Nat.not_lt.mpr hb]

/-! The payload groups. -/

/-- If a group is taken, it fits in the message and its value is legal. -/
theorem takeGroup_ok (s : State) (g : Group) (pos : Nat) (es : List Entry) (h : takeGroup s g pos = .ok es) :
    pos + g.width ≤ messageLimit s ∧ g.emits (messageBits s pos g.width) = some es := by
  unfold takeGroup at h
  split at h
  · cases h
  · split at h
    · cases h
    · next heq =>
      injection h with h
      subst h
      exact ⟨by omega, heq⟩

/-- If a group is not taken, the message ends too early or its value is illegal. -/
theorem takeGroup_error (s : State) (g : Group) (pos : Nat) (e : CmdError) (h : takeGroup s g pos = .error e) :
    e = endOfData .message g.width ∨ e = illegalValue g.width (messageBits s pos g.width) := by
  unfold takeGroup at h
  split at h
  · injection h with h
    exact Or.inl h.symm
  · split at h
    · injection h with h
      exact Or.inr h.symm
    · cases h

/-- If k groups are taken they fit in the message, and the first one is a group at their position. -/
theorem takeGroups_ok (s : State) (g : Group) (k pos : Nat) (es : List Entry) (h : takeGroups s g k pos = .ok es) :
    (k = 0 ∧ es = []) ∨ (pos + k * g.width ≤ messageLimit s) := by
  induction k generalizing pos es with
  | zero =>
    left
    simpa [takeGroups, eq_comm] using h
  | succ k ih =>
    right
    unfold takeGroups at h
    split at h
    · cases h
    · next first hfirst =>
      have hfit := (takeGroup_ok s g pos first hfirst).1
      split at h
      · cases h
      · next rest hrest =>
        rcases ih _ _ hrest with ⟨rfl, _⟩ | hk
        · simpa using hfit
        · have : (k + 1) * g.width = k * g.width + g.width := by ring
          omega

/-- k groups of c entries each make k·c entries. -/
theorem takeGroups_length (s : State) (g : Group) (c : Nat) (hc : ∀ v es, g.emits v = some es → es.length = c)
    (k pos : Nat) (es : List Entry) (h : takeGroups s g k pos = .ok es) : es.length = k * c := by
  induction k generalizing pos es with
  | zero =>
    have : es = [] := by simpa [takeGroups, eq_comm] using h
    simp [this]
  | succ k ih =>
    unfold takeGroups at h
    split at h
    · cases h
    · next first hfirst =>
      have hlen := hc _ _ (takeGroup_ok s g pos first hfirst).2
      split at h
      · cases h
      · next rest hrest =>
        injection h with h
        subst h
        rw [List.length_append, hlen, ih _ _ hrest]
        ring

/-- If k groups are not taken, one of them ran out of data or had an illegal value. -/
theorem takeGroups_error (s : State) (g : Group) (k pos : Nat) (e : CmdError) (h : takeGroups s g k pos = .error e) :
    ∃ j < k, takeGroup s g (pos + j * g.width) = .error e := by
  induction k generalizing pos with
  | zero => simp [takeGroups] at h
  | succ k ih =>
    unfold takeGroups at h
    split at h
    · next e' hfirst =>
      injection h with h
      subst h
      exact ⟨0, by omega, by simpa using hfirst⟩
    · split at h
      · next e' hrest =>
        injection h with h
        subst h
        obtain ⟨j, hj, hg⟩ := ih _ hrest
        refine ⟨j + 1, by omega, ?_⟩
        rw [show pos + (j + 1) * g.width = pos + g.width + j * g.width by ring]
        exact hg
      · cases h

/-- All k groups are taken when each of them is: the entries are the groups' entries in order. -/
theorem takeGroups_of_each (s : State) (g : Group) (k pos : Nat) (f : Nat → List Entry)
    (h : ∀ j < k, takeGroup s g (pos + j * g.width) = .ok (f j)) :
    takeGroups s g k pos = .ok ((List.range k).flatMap f) := by
  induction k generalizing pos f with
  | zero => simp [takeGroups]
  | succ k ih =>
    have hfirst : takeGroup s g pos = .ok (f 0) := by simpa using h 0 (by omega)
    have hrest : takeGroups s g k (pos + g.width) = .ok ((List.range k).flatMap fun j => f (j + 1)) := by
      refine ih (pos + g.width) (fun j => f (j + 1)) (fun j hj => ?_)
      have := h (j + 1) (by omega)
      rwa [show pos + (j + 1) * g.width = pos + g.width + j * g.width by ring] at this
    unfold takeGroups
    simp only [hfirst, hrest]
    rw [List.range_succ_eq_map, List.flatMap_cons, List.flatMap_map]

/-- What a payload's end says: where the groups end and that the last one was taken there. -/
theorem takeThen_ok (s : State) (g : Group) (k : Nat) (last : Option Group) (pos pos' : Nat) (es : List Entry)
    (h : takeThen s g k last pos = .ok (es, pos')) :
    ∃ first, takeGroups s g k pos = .ok first ∧
      ((last = none ∧ es = first ∧ pos' = pos + k * g.width) ∨
       (∃ final hg, last = some hg ∧ takeGroup s hg (pos + k * g.width) = .ok final ∧ es = first ++ final ∧
          pos' = pos + k * g.width + hg.width)) := by
  unfold takeThen at h
  split at h
  · cases h
  · next first hfirst =>
    refine ⟨first, hfirst, ?_⟩
    split at h
    · injection h with h
      injection h with h1 h2
      exact Or.inl ⟨rfl, h1.symm, h2.symm⟩
    · next hg =>
      split at h
      · cases h
      · next final hfinal =>
        injection h with h
        injection h with h1 h2
        exact Or.inr ⟨final, hg, rfl, hfinal, h1.symm, h2.symm⟩

/-! The block decoder. -/

theorem hammingDistance_self (r : List Byte) : hammingDistance r r = 0 := by
  induction r with
  | nil => rfl
  | cons a r ih => simp [hammingDistance, ih]

theorem correctFrom_length (locator evaluator : List Byte) (n p : Nat) (r : List Byte) :
    (correctFrom locator evaluator n p r).length = r.length := by
  induction r generalizing p with
  | nil => rfl
  | cons b r ih => simp [correctFrom, ih]

theorem correctionOf_length (ec : Nat) (r : List Byte) : (correctionOf ec r).length = r.length :=
  correctFrom_length _ _ _ _ _

/-- If the corrections of the blocks succeed, each block decodes and its data part stands in the message in order. -/
theorem correctBlocks_cons (lay : BlockLayout) (stream : List Byte) (b n : Nat) (message : List Byte) (k : Nat)
    (h : correctBlocks lay stream b (n + 1) = .ok (message, k)) :
    ∃ c e rest j, rsDecode lay.ec (blockOf lay stream b) = some (c, e) ∧
      correctBlocks lay stream (b + 1) n = .ok (rest, j) ∧
      message = c.take (blockData lay b) ++ rest ∧ k = e + j := by
  unfold correctBlocks at h
  split at h
  · cases h
  · next c e hdecode =>
    split at h
    · cases h
    · next rest j hrest =>
      injection h with h
      injection h with h1 h2
      exact ⟨c, e, rest, j, hdecode, hrest, h1.symm, h2.symm⟩

/-- If the corrections fail, they name a block that does not decode, and every block before it does. -/
theorem correctBlocks_error (lay : BlockLayout) (stream : List Byte) (b n k : Nat)
    (h : correctBlocks lay stream b n = .error k) :
    b ≤ k ∧ k < b + n ∧ rsDecode lay.ec (blockOf lay stream k) = none ∧
      ∀ j, b ≤ j → j < k → rsDecode lay.ec (blockOf lay stream j) ≠ none := by
  induction n generalizing b with
  | zero => simp [correctBlocks] at h
  | succ n ih =>
    unfold correctBlocks at h
    split at h
    · next hnone =>
      injection h with h
      subst h
      exact ⟨le_refl _, by omega, hnone, fun j h1 h2 => by omega⟩
    · next c e hsome =>
      split at h
      · next k' hrest =>
        injection h with h
        subst h
        obtain ⟨h1, h2, h3, h4⟩ := ih _ hrest
        refine ⟨by omega, by omega, h3, fun j hj1 hj2 => ?_⟩
        by_cases hjb : j = b
        · subst hjb
          simp [hsome]
        · exact h4 j (by omega) hj2
      · cases h

end Sys2Proof.Machine
end

