-- ==== Sys2Proof/Laws/PerInstr.lean ====
section
/-! SUPPORT. What is said of every command as syntax, one lemma per constructor: its word is a word of its row of the
opcode map. -/

namespace Sys2Proof.Laws

/-- The word of a command has the opcode and the zero reserved bits of the row of its mnemonic
(30_encoding.md R93). -/
def EncodingRow.Statement (i : Instr) : Prop :=
  ∃ row ∈ opcodeRows, row.mnemonic = mnemonicOf i ∧ encode i &&& row.mask = row.pattern

/-- Row k of the opcode map is the row of a command when it has its mnemonic and its word matches. -/
theorem EncodingRow.of_row (i : Instr) (k : Fin 24) (hname : opcodeRows[k].mnemonic = mnemonicOf i)
    (hword : encode i &&& opcodeRows[k].mask = opcodeRows[k].pattern) : EncodingRow.Statement i :=
  ⟨opcodeRows[k], List.getElem_mem _, hname, hword⟩

theorem EncodingRow.nop : EncodingRow.Statement .nop :=
  EncodingRow.of_row _ 0 rfl rfl

theorem EncodingRow.setVersion (ver : BitVec 6) : EncodingRow.Statement (.setVersion ver) :=
  EncodingRow.of_row _ 1 rfl (by revert ver; decide +kernel)

theorem EncodingRow.setSide (side : BitVec 8) : EncodingRow.Statement (.setSide side) :=
  EncodingRow.of_row _ 2 rfl (by revert side; decide +kernel)

theorem EncodingRow.setFormat (fv : BitVec 5) : EncodingRow.Statement (.setFormat fv) :=
  EncodingRow.of_row _ 3 rfl (by revert fv; decide +kernel)

theorem EncodingRow.fmtEncode (fv : BitVec 5) : EncodingRow.Statement (.fmtEncode fv) :=
  EncodingRow.of_row _ 4 rfl (by revert fv; decide +kernel)

theorem EncodingRow.fmtCheck (sel : Sample) : EncodingRow.Statement (.fmtCheck sel) := by
  cases sel <;> exact EncodingRow.of_row _ 5 rfl rfl

theorem EncodingRow.fmtGather : EncodingRow.Statement .fmtGather :=
  EncodingRow.of_row _ 6 rfl rfl

theorem EncodingRow.fmtDecode1 : EncodingRow.Statement .fmtDecode1 :=
  EncodingRow.of_row _ 7 rfl rfl

theorem EncodingRow.fmtDecode2 : EncodingRow.Statement .fmtDecode2 :=
  EncodingRow.of_row _ 8 rfl rfl

theorem EncodingRow.maskEval (mid : BitVec 3) (row : BitVec 8) (col : BitVec 8) : EncodingRow.Statement (.maskEval mid row col) := by
  refine EncodingRow.of_row _ 9 rfl (BitVec.eq_of_getLsbD_eq fun k hk => ?_)
  simp only [encode, opcodeRows, BitVec.getLsbD_and, BitVec.getLsbD_append]
  interval_cases k <;> simp

theorem EncodingRow.dzQuery (x : BitVec 8) (y : BitVec 8) : EncodingRow.Statement (.dzQuery x y) := by
  refine EncodingRow.of_row _ 10 rfl (BitVec.eq_of_getLsbD_eq fun k hk => ?_)
  simp only [encode, opcodeRows, BitVec.getLsbD_and, BitVec.getLsbD_append]
  interval_cases k <;> simp

theorem EncodingRow.zzTraverse : EncodingRow.Statement .zzTraverse :=
  EncodingRow.of_row _ 11 rfl rfl

theorem EncodingRow.rawRead (n : BitVec 6) : EncodingRow.Statement (.rawRead n) :=
  EncodingRow.of_row _ 12 rfl (by revert n; decide +kernel)

theorem EncodingRow.rawRewind : EncodingRow.Statement .rawRewind :=
  EncodingRow.of_row _ 13 rfl rfl

theorem EncodingRow.rawClear : EncodingRow.Statement .rawClear :=
  EncodingRow.of_row _ 14 rfl rfl

theorem EncodingRow.rawAppend (n : BitVec 6) : EncodingRow.Statement (.rawAppend n) :=
  EncodingRow.of_row _ 15 rfl (by revert n; decide +kernel)

theorem EncodingRow.rsCorrect : EncodingRow.Statement .rsCorrect :=
  EncodingRow.of_row _ 16 rfl rfl

theorem EncodingRow.msgRead (n : BitVec 6) : EncodingRow.Statement (.msgRead n) :=
  EncodingRow.of_row _ 17 rfl (by revert n; decide +kernel)

theorem EncodingRow.msgRewind : EncodingRow.Statement .msgRewind :=
  EncodingRow.of_row _ 18 rfl rfl

theorem EncodingRow.segMode : EncodingRow.Statement .segMode :=
  EncodingRow.of_row _ 19 rfl rfl

theorem EncodingRow.segCount : EncodingRow.Statement .segCount :=
  EncodingRow.of_row _ 20 rfl rfl

theorem EncodingRow.segPayload : EncodingRow.Statement .segPayload :=
  EncodingRow.of_row _ 21 rfl rfl

theorem EncodingRow.segDecode : EncodingRow.Statement .segDecode :=
  EncodingRow.of_row _ 22 rfl rfl

theorem EncodingRow.decodeAll : EncodingRow.Statement .decodeAll :=
  EncodingRow.of_row _ 23 rfl rfl

end Sys2Proof.Laws
end

