-- ==== Sys2Proof/Laws/Step.lean ====
section
/-! SUPPORT. What a host access, an input and a step can do. -/

namespace Sys2Proof.Machine

/-- Every command answers a next state. -/
theorem exec_is_next (i : Instr) (s : State) : ∃ t, exec i s = .next t := by
  cases i <;> first | exact finish_is_next _ | exact ⟨_, rfl⟩

/-- The engine's turn answers a next state: the command's, or ILLEGAL_COMMAND. -/
theorem runCommand_cases (s : State) :
    (∃ i, decode s.cmdl = .ok i ∧ runCommand s = exec i s) ∨
    (∃ why, decode s.cmdl = .error why ∧
      runCommand s = .next (raiseError ⟨.illegalCommand, s.cmdl⟩ s)) := by
  unfold runCommand
  cases h : decode s.cmdl with
  | ok i => exact Or.inl ⟨i, rfl, rfl⟩
  | error why => exact Or.inr ⟨why, rfl, rfl⟩

/-- Every step answers a next state. -/
theorem step_is_next (s : State) : ∃ t, step s = .next t := by
  unfold step
  split
  · rcases runCommand_cases s with ⟨i, _, h⟩ | ⟨_, _, h⟩
    · rw [h]
      exact exec_is_next i s
    · exact ⟨_, h⟩
  · exact ⟨_, rfl⟩

/-- A step is the engine's command or the next input. -/
theorem step_cases (s t : State) (h : step s = .next t) :
    (s.busy = true ∧ (s.lag = 0 ∨ s.events = []) ∧ runCommand s = .next t) ∨
    ((s.busy = false ∨ (s.lag ≠ 0 ∧ s.events ≠ [])) ∧ t = takeInput s) := by
  unfold step engineMoves at h
  split at h
  · next hm =>
    left
    simp only [Bool.and_eq_true, Bool.or_eq_true, beq_iff_eq, List.isEmpty_iff] at hm
    exact ⟨hm.1, hm.2, h⟩
  · next hm =>
    right
    simp only [Bool.and_eq_true, Bool.or_eq_true, beq_iff_eq, List.isEmpty_iff, not_and, not_or] at hm
    refine ⟨?_, ?_⟩
    · cases hb : s.busy
      · exact Or.inl rfl
      · exact Or.inr (hm hb)
    · injection h with h
      exact h.symm

/-- A read changes the bus response and the draw counter only. -/
theorem hostRead_frame (width : Width) (offset : BitVec 15) (s : State) :
    ∃ r n, hostRead width offset s = { s with reply := r, draws := n } := by
  unfold hostRead
  split
  · exact ⟨_, _, rfl⟩
  · split
    · exact ⟨_, _, rfl⟩
    · exact ⟨_, s.draws, rfl⟩

/-- An operand write is dropped with OVERRUN, or done. -/
theorem writeOperand_cases (s t : State) :
    (s.busy = true ∧ writeOperand s t = { s with overrun := true }) ∨ (s.busy = false ∧ writeOperand s t = t) := by
  cases hb : s.busy <;> simp [writeOperand, hb]

theorem writeRegister_cases (r : Reg) (v : Word) (s : State) :
    writeRegister r v s = s ∨
    (r = .ctrl ∧ (writeRegister r v s = resetBlock s ∨ writeRegister r v s = clearError s)) ∨
    (r = .cmd ∧ writeRegister r v s = submitCommand v s) ∨
    (s.busy = true ∧ writeRegister r v s = { s with overrun := true }) ∨
    (s.busy = false ∧ ∃ w f1 f2, writeRegister r v s = { s with wdata := w, fmtS1 := f1, fmtS2 := f2 }) := by
  cases r
  case ctrl =>
    unfold writeRegister writeCtrl
    dsimp only
    split
    · exact Or.inr (Or.inl ⟨rfl, Or.inl rfl⟩)
    · split
      · exact Or.inr (Or.inl ⟨rfl, Or.inr rfl⟩)
      · exact Or.inl rfl
  case cmd => exact Or.inr (Or.inr (Or.inl ⟨rfl, rfl⟩))
  case wdata =>
    rcases writeOperand_cases s { s with wdata := v } with h | ⟨hb, h⟩
    · exact Or.inr (Or.inr (Or.inr (Or.inl h)))
    · exact Or.inr (Or.inr (Or.inr (Or.inr ⟨hb, v, s.fmtS1, s.fmtS2, h⟩)))
  case fmtS1 =>
    rcases writeOperand_cases s { s with fmtS1 := v.extractLsb' 0 15 } with h | ⟨hb, h⟩
    · exact Or.inr (Or.inr (Or.inr (Or.inl h)))
    · exact Or.inr (Or.inr (Or.inr (Or.inr ⟨hb, s.wdata, _, s.fmtS2, h⟩)))
  case fmtS2 =>
    rcases writeOperand_cases s { s with fmtS2 := v.extractLsb' 0 15 } with h | ⟨hb, h⟩
    · exact Or.inr (Or.inr (Or.inr (Or.inl h)))
    · exact Or.inr (Or.inr (Or.inr (Or.inr ⟨hb, s.wdata, s.fmtS1, _, h⟩)))
  all_goals exact Or.inl rfl

/-- What an input does to the block: nothing but the bus response and the draw counter, a reset, an error clear, a CMD
write, a dropped operand write, an operand write, or a change of the module source. -/
theorem handleEvent_cases (e : Event) (s : State) :
    (∃ r n es, handleEvent e s = { s with reply := r, draws := n, events := es }) ∨
    (∃ r, handleEvent e s = { resetBlock s with reply := r }) ∨
    (∃ r, handleEvent e s = { clearError s with reply := r }) ∨
    (∃ w r, handleEvent e s = { submitCommand w s with reply := r }) ∨
    (∃ r, s.busy = true ∧ handleEvent e s = { s with overrun := true, reply := r }) ∨
    (∃ w f1 f2 r, s.busy = false ∧ handleEvent e s = { s with wdata := w, fmtS1 := f1, fmtS2 := f2, reply := r }) ∨
    (∃ g, handleEvent e s = { s with modules := g, drift := s.drift || s.busy }) := by
  cases e with
  | access a =>
    cases a with
    | read width offset =>
      obtain ⟨r, n, h⟩ := hostRead_frame width offset s
      exact Or.inl ⟨r, n, s.events, h⟩
    | write width offset v =>
      simp only [handleEvent, hostAccess, hostWrite]
      split
      · exact Or.inl ⟨_, s.draws, s.events, rfl⟩
      · next t _ =>
        cases t with
        | reg r =>
          simp only [writeTarget]
          rcases writeRegister_cases r v s with h | ⟨_, h | h⟩ | ⟨_, h⟩ | ⟨hb, h⟩ | ⟨hb, w, f1, f2, h⟩ <;> rw [h]
          · exact Or.inl ⟨_, s.draws, s.events, rfl⟩
          · exact Or.inr (Or.inl ⟨_, rfl⟩)
          · exact Or.inr (Or.inr (Or.inl ⟨_, rfl⟩))
          · exact Or.inr (Or.inr (Or.inr (Or.inl ⟨v, _, rfl⟩)))
          · exact Or.inr (Or.inr (Or.inr (Or.inr (Or.inl ⟨_, hb, rfl⟩))))
          · exact Or.inr (Or.inr (Or.inr (Or.inr (Or.inr (Or.inl ⟨w, f1, f2, _, hb, rfl⟩)))))
        | raw w => exact Or.inl ⟨_, s.draws, s.events, rfl⟩
        | msg w => exact Or.inl ⟨_, s.draws, s.events, rfl⟩
        | out w => exact Or.inl ⟨_, s.draws, s.events, rfl⟩
  | wait =>
    obtain ⟨r, n, h⟩ := hostRead_frame .word (registerOffset .status) s
    simp only [handleEvent, waitPoll, h]
    split
    · exact Or.inl ⟨r, n, _, rfl⟩
    · exact Or.inl ⟨r, n, s.events, rfl⟩
  | hardReset => exact Or.inr (Or.inl ⟨s.reply, rfl⟩)
  | setModules g => exact Or.inr (Or.inr (Or.inr (Or.inr (Or.inr (Or.inr ⟨g, rfl⟩)))))

/-- With no input to come, taking an input holds the state. -/
theorem takeInput_nil (s : State) (h : s.events = []) : takeInput s = s := by
  simp [takeInput, h]

theorem takeInput_cons (s : State) (e : Event) (rest : List Event) (h : s.events = e :: rest) :
    takeInput s = handleEvent e { s with events := rest, lag := s.lag - 1 } := by
  simp [takeInput, h]

end Sys2Proof.Machine
end

