-- ==== Sys2Proof/Tests/Slice0.lean ====
section
/-! SUPPORT. Tests of the model, each expected result from a word or vector the spec writes out; and for each statement
with hypotheses a concrete case that meets them. -/

namespace Sys2Proof.Tests

set_option Elab.async false

open Sys2Proof.Machine

/-! Well-formed commands. -/

theorem test_wf_refuses_raw_read_33 : (Instr.rawRead 33#6).wf = false := by decide
theorem test_wf_refuses_raw_append_33 : (Instr.rawAppend 33#6).wf = false := by decide
theorem test_wf_refuses_msg_read_33 : (Instr.msgRead 33#6).wf = false := by decide
theorem test_wf_accepts_raw_read_32 : (Instr.rawRead 32#6).wf = true := by decide

/-! Words: 30_encoding.md R93, R97; 95_test_vectors.md. -/

theorem test_word_nop : decode 0x00000000#32 = .ok .nop := by decide
theorem test_word_set_version : decode 0x01000002#32 = .ok (.setVersion 2#6) := by decide
theorem test_word_set_side : decode 0x02000019#32 = .ok (.setSide 25#8) := by decide
theorem test_word_set_format : decode 0x0300001A#32 = .ok (.setFormat 0b11010#5) := by decide
theorem test_word_fmt_encode : decode 0x10000008#32 = .ok (.fmtEncode 8#5) := by decide
theorem test_word_fmt_check_s1 : decode 0x11000000#32 = .ok (.fmtCheck .s1) := by decide
theorem test_word_fmt_check_s2 : decode 0x11000001#32 = .ok (.fmtCheck .s2) := by decide
theorem test_word_fmt_gather : decode 0x12000000#32 = .ok .fmtGather := by decide
theorem test_word_fmt_decode1 : decode 0x13000000#32 = .ok .fmtDecode1 := by decide
theorem test_word_fmt_decode2 : decode 0x14000000#32 = .ok .fmtDecode2 := by decide
theorem test_word_mask_eval : decode 0x20600102#32 = .ok (.maskEval 3#3 1#8 2#8) := by decide
theorem test_word_dz_query : decode 0x21000D08#32 = .ok (.dzQuery 8#8 13#8) := by decide
theorem test_word_zz_traverse : decode 0x22000000#32 = .ok .zzTraverse := by decide
theorem test_word_raw_read : decode 0x30000020#32 = .ok (.rawRead 32#6) := by decide
theorem test_word_raw_rewind : decode 0x31000000#32 = .ok .rawRewind := by decide
theorem test_word_raw_clear : decode 0x32000000#32 = .ok .rawClear := by decide
theorem test_word_raw_append : decode 0x33000007#32 = .ok (.rawAppend 7#6) := by decide
theorem test_word_rs_correct : decode 0x40000000#32 = .ok .rsCorrect := by decide
theorem test_word_msg_read : decode 0x50000004#32 = .ok (.msgRead 4#6) := by decide
theorem test_word_msg_rewind : decode 0x51000000#32 = .ok .msgRewind := by decide
theorem test_word_seg_mode : decode 0x60000000#32 = .ok .segMode := by decide
theorem test_word_seg_count : decode 0x61000000#32 = .ok .segCount := by decide
theorem test_word_seg_payload : decode 0x62000000#32 = .ok .segPayload := by decide
theorem test_word_seg_decode : decode 0x63000000#32 = .ok .segDecode := by decide
theorem test_word_decode_all : decode 0x70000000#32 = .ok .decodeAll := by decide

theorem test_illegal_opcode : decode 0xFF000000#32 = .error .unknownOpcode := by decide
theorem test_illegal_gather_bit : decode 0x12000001#32 = .error .reservedBit := by decide
theorem test_illegal_mask_eval_bit : decode 0x20100000#32 = .error .reservedBit := by decide
theorem test_illegal_count : decode 0x30000021#32 = .error .countTooLarge := by decide
theorem test_illegal_count_behind_reserved : decode 0x30000061#32 = .error .reservedBit := by decide

/-- No two rows of the opcode map match one word: their patterns differ under both masks. -/
theorem test_rows_disjoint :
    opcodeRows.Pairwise fun a b => a.pattern &&& (a.mask &&& b.mask) ≠ b.pattern &&& (a.mask &&& b.mask) := by decide

/-! Small states. -/

/-- What a command leaves, asked one question. -/
def leaves (i : Instr) (s : State) (ask : State → Bool) : Bool :=
  match exec i s with
  | .next t => ask t
  | .fault _ => false
  | .refused _ => false

/-- Rows of a 21×21 symbol, bit x of a row's number the module at column x. -/
def gridOf (rows : List Nat) : Grid := rows.map fun n => (List.range 21).map n.testBit

/-- After SET_VERSION v. -/
def configured (v : Nat) : State :=
  { State.reset with version := BitVec.ofNat 6 v, side := BitVec.ofNat 8 (17 + 4 * v), vValid := true }

/-- After SET_VERSION 1, SET_FORMAT Q, 2. -/
def formatted : State := { configured 1 with ecl := 3#2, maskId := 2#3, fValid := true }

/-- With raw bits loaded and the cursor at pos. -/
def withRaw (bits : List Bool) (pos : Nat) : State :=
  { formatted with
    rValid := true, rawBuf := bufStore [] 0 bits, rawLen := BitVec.ofNat 15 bits.length, rawPos := BitVec.ofNat 15 pos }

/-- The bits of bytes, most significant first. -/
def bitsOf (bytes : List Byte) : List Bool := bytes.flatMap fun b => (List.range 8).map fun k => b.getLsbD (7 - k)

/-- With a message stored and the cursor at pos. -/
def withMessage (bytes : List Byte) (pos : Nat) : State :=
  { withRaw [] 0 with
    mValid := true, msgBuf := bufStore [] 0 bytes, msgLen := BitVec.ofNat 12 bytes.length,
    msgPos := BitVec.ofNat 15 pos }

/-- In the middle of a segment. -/
def inSegment (bytes : List Byte) (pos : Nat) (mode : BitVec 4) (count : Nat) : State :=
  { withMessage bytes pos with segMode := mode, segCount := BitVec.ofNat 16 count, sstate := .countRead }

/-- The rows of program P3, 95_test_vectors.md 9.3. -/
def rowsP3 : List Nat :=
  [2082175, 1069121, 1531485, 1529949, 1524573, 1072449, 2086271,
   6144, 1152766, 2045857, 1212912, 37909, 268877, 1733376,
   1524607, 844609, 918365, 430941, 208733, 1312065, 77439]

/-- The symbol of program P3. -/
def symbolP3 : State := { configured 1 with modules := gridOf rowsP3 }

/-- The received bytes of the 1-Q stream with six of them changed (42_rs_deinterleaver.md R176, example). -/
def damaged : List Byte :=
  [0xDF#8, 0x5B#8, 0x0B#8, 0x79#8, 0xD1#8, 0x72#8, 0xDC#8, 0x4D#8, 0x43#8, 0x40#8, 0xB9#8, 0x11#8, 0xEC#8]
  ++ [0xA8#8, 0x49#8, 0x16#8, 0x52#8, 0xD9#8, 0x36#8, 0x9C#8, 0xAA#8, 0x2E#8, 0x0F#8, 0xB4#8, 0x7A#8, 0x90#8]

/-! One step of each command. -/

theorem test_nop : leaves .nop { symbolP3 with busy := true } (· == symbolP3) = true := by decide +kernel
theorem test_set_version : leaves (.setVersion 2#6) State.reset (configWord · == 0x00190002#32) = true := by
  decide +kernel
theorem test_set_version_41 :
    leaves (.setVersion 41#6) State.reset (fun t => t.errInfo == 0x29#32 && statusWord t == 0x30002#32) = true := by
  decide +kernel
theorem test_set_side : leaves (.setSide 177#8) State.reset (configWord · == 0x00B10028#32) = true := by
  decide +kernel
theorem test_set_side_22 : leaves (.setSide 22#8) State.reset (·.errInfo == 0x16#32) = true := by decide +kernel
theorem test_set_format :
    leaves (.setFormat 26#5) (configured 1)
      (fun t => configWord t == 0x00152301#32 && layoutWord t == 0x000D010D#32) = true := by decide +kernel
theorem test_set_format_early :
    leaves (.setFormat 8#5) { State.reset with cmdl := 0x03000008#32 }
      (fun t => statusWord t == 0x20002#32 && t.errInfo == 0x03000008#32) = true := by decide +kernel
theorem test_fmt_encode : leaves (.fmtEncode 8#5) State.reset (·.fmtResult == 0x77C423D6#32) = true := by decide +kernel
theorem test_fmt_encode_q2 : leaves (.fmtEncode 26#5) State.reset (·.fmtResult == 0x3F316B23#32) = true := by
  decide +kernel
theorem test_fmt_check_s1 :
    leaves (.fmtCheck .s1) { State.reset with fmtS1 := 0x23D7#15 } (·.fmtResult == 1#32) = true := by decide +kernel
theorem test_fmt_check_s2 :
    leaves (.fmtCheck .s2) { State.reset with fmtS2 := 0x5412#15 } (·.fmtResult == 0x255#32) = true := by decide +kernel
theorem test_fmt_gather :
    leaves .fmtGather symbolP3 (fun t => t.fmtS1 == 0x6B23#15 && t.fmtS2 == 0x6B23#15) = true := by decide +kernel
/-- Vector F3, the miscorrection. -/
theorem test_fmt_decode1 :
    leaves .fmtDecode1 { State.reset with fmtS1 := 0x0017#15 } (·.fmtResult == 0x301#32) = true := by decide +kernel
/-- Vector F4. -/
theorem test_fmt_decode1_tie :
    leaves .fmtDecode1 { State.reset with fmtS1 := 0x23D9#15 }
      (fun t => statusWord t == 0x40002#32 && t.errInfo == 0x304#32) = true := by decide +kernel
/-- Vector F9. -/
theorem test_fmt_decode2 :
    leaves .fmtDecode2 { State.reset with fmtS1 := 0x6B20#15, fmtS2 := 0x6B2C#15 } (·.fmtResult == 0x61A#32) = true := by
  decide +kernel
/-- Vector F2: over budget without a tie. -/
theorem test_fmt_decode2_over :
    leaves .fmtDecode2 { State.reset with fmtS1 := 0x23D1#15 } (·.errInfo == 0x207#32) = true := by decide +kernel
theorem test_mask_eval : leaves (.maskEval 3#3 1#8 2#8) State.reset (·.rdata == 1#32) = true := by decide +kernel
theorem test_mask_eval_0 :
    leaves (.maskEval 4#3 2#8 0#8) { State.reset with rdata := 7#32 } (·.rdata == 0#32) = true := by decide +kernel
theorem test_dz_query : leaves (.dzQuery 34#8 5#8) (configured 7) (·.rdata == 0x71#32) = true := by decide +kernel
theorem test_dz_query_outside :
    leaves (.dzQuery 21#8 0#8) { configured 1 with cmdl := 0x21000015#32 }
      (fun t => statusWord t == 0x1010A#32 && t.errInfo == 0x21000015#32) = true := by decide +kernel
/-- Program P3: the first and last bytes of the stream, by 95_test_vectors.md 9.3 and R176. -/
theorem test_zz_traverse :
    leaves .zzTraverse { symbolP3 with ecl := 3#2, maskId := 2#3, fValid := true }
      (fun t => t.rawLen == 208#15 && rawByte t 0 == 0x20#8 && rawByte t 1 == 0x5B#8 && rawByte t 25 == 0x10#8) =
      true := by decide +kernel
theorem test_raw_read :
    leaves (.rawRead 8#6) (withRaw (bitsOf [0x20#8, 0x5B#8]) 4) (fun t => t.rdata == 0x05#32 && t.rawPos == 12#15) =
      true := by decide +kernel
theorem test_raw_read_past_end :
    leaves (.rawRead 1#6) (withRaw [] 0) (fun t => statusWord t == 0x8043A#32 && t.errInfo == 1#32) = true := by
  decide +kernel
theorem test_raw_rewind : leaves .rawRewind (withRaw (bitsOf [0x20#8]) 4) (·.rawPos == 0#15) = true := by decide +kernel
theorem test_raw_clear :
    leaves .rawClear formatted (fun t => statusWord t == 0x438#32 && t.rawLen == 0#15) = true := by decide +kernel
theorem test_raw_append :
    leaves (.rawAppend 8#6) { withRaw [] 0 with wdata := 0xFFFFFF20#32 }
      (fun t => t.rawLen == 8#15 && readTarget (.raw 0) t == 0x00000020#32) = true := by decide +kernel
theorem test_raw_append_full :
    leaves (.rawAppend 1#6) { withRaw [] 0 with rawLen := 29648#15 } (·.errInfo == 0x000073D0#32) = true := by
  decide +kernel
theorem test_rs_correct :
    leaves .rsCorrect (withRaw (bitsOf damaged) 0)
      (fun t => t.rsNcorr == 6#16 && t.msgLen == 13#12 && bufRead t.msgBuf 0 == 0x20#8 && bufRead t.msgBuf 3 == 0x78#8
        && bufRead t.msgBuf 10 == 0xEC#8) = true := by decide +kernel
theorem test_rs_correct_empty :
    leaves .rsCorrect (withRaw [] 0) (statusWord · == 0x7043A#32) = true := by decide +kernel
theorem test_msg_read :
    leaves (.msgRead 9#6) (withMessage [0x20#8, 0x5B#8] 4) (fun t => t.rdata == 0x00B#32 && t.msgPos == 13#15) =
      true := by decide +kernel
theorem test_msg_read_past_end :
    leaves (.msgRead 9#6) (withMessage [0x20#8, 0x5B#8] 8) (·.errInfo == 0x80000009#32) = true := by decide +kernel
theorem test_msg_rewind :
    leaves .msgRewind (inSegment [0x20#8] 4 2#4 3) (fun t => t.msgPos == 0#15 && t.segMode == 0#4) = true := by
  decide +kernel
/-- Vector S23. -/
theorem test_seg_mode :
    leaves .segMode (withMessage [0x20#8, 0x09#8, 0x40#8] 0)
      (fun t => statusWord t == 0x1478#32 && t.segMode == 2#4 && t.msgPos == 4#15) = true := by decide +kernel
/-- Vector S15. -/
theorem test_seg_mode_unsupported :
    leaves .segMode (withMessage [0x30#8, 0x00#8] 0) (fun t => statusWord t == 0xA047A#32 && t.errInfo == 3#32) =
      true := by decide +kernel
/-- Vector S24. -/
theorem test_seg_count :
    leaves .segCount { withMessage [0x20#8, 0x09#8, 0x40#8] 4 with segMode := 2#4, sstate := .modeRead }
      (fun t => statusWord t == 0x2478#32 && t.segCount == 1#16 && t.msgPos == 13#15) = true := by decide +kernel
/-- Vector S12. -/
theorem test_seg_payload :
    leaves .segPayload (inSegment [0x40#8, 0x30#8, 0x0F#8, 0xF8#8, 0x00#8] 12 4#4 3)
      (fun t => t.outLen == 3#14 && t.msgPos == 36#15 && bufSlice t.outBuf 0 3 == [0x00#16, 0xFF#16, 0x80#16]) =
      true := by decide +kernel
/-- Vector S9. -/
theorem test_seg_payload_2025 :
    leaves .segPayload { inSegment [0x20#8, 0x17#8, 0xE9#8, 0x00#8] 13 2#4 2 with outLen := 5#14 }
      (fun t => t.errInfo == 0x000B07E9#32 && t.outLen == 0#14) = true := by decide +kernel
/-- Vector S13. -/
theorem test_seg_decode :
    leaves .segDecode (withMessage [0x80#8, 0x3B#8, 0xA0#8, 0x7F#8, 0xFC#8, 0x00#8, 0x00#8] 0)
      (fun t => t.msgPos == 51#15 && bufSlice t.outBuf 0 3 == [0xE040#16, 0xEBBF#16, 0x8140#16]) = true := by
  decide +kernel
/-- Vector S4. -/
theorem test_seg_decode_1000 :
    leaves .segDecode (withMessage [0x10#8, 0x0F#8, 0xE8#8, 0x00#8] 0)
      (fun t => statusWord t == 0xB047A#32 && t.errInfo == 0x000A03E8#32 && t.msgPos == 0#15 && t.segMode == 0#4) =
      true := by decide +kernel
/-- Program P3. -/
theorem test_decode_all :
    leaves .decodeAll symbolP3
      (fun t => statusWord t == 0x478#32 && configWord t == 0x00152301#32 && t.msgPos == 74#15
        && bufSlice t.outBuf 0 6 == [0x48#16, 0x45#16, 0x4C#16, 0x4C#16, 0x4F#16, 0x20#16]) = true := by decide +kernel

/-- Vector X13. -/
theorem test_decode_all_white :
    leaves .decodeAll (configured 1) (fun t => statusWord t == 0x4010A#32 && t.errInfo == 0x30A#32) = true := by
  decide +kernel

/-! A case that meets the hypotheses of each statement that has any, at the edges of its ranges. -/

/-- The codeword bytes of a version 1-L message: byte mode, "Hi", terminator, pad codewords. -/
def cleanL : List Byte :=
  [0x40#8, 0x24#8, 0x86#8, 0x90#8, 0xEC#8, 0x11#8, 0xEC#8, 0x11#8, 0xEC#8, 0x11#8, 0xEC#8, 0x11#8, 0xEC#8]
  ++ [0x11#8, 0xEC#8, 0x11#8, 0xEC#8, 0x11#8, 0xEC#8, 0x7C#8, 0xB8#8, 0x54#8, 0xFB#8, 0x46#8, 0x11#8, 0x5F#8]

/-- The version 1-L symbol, mask 0, that holds them. -/
def rowsL : List Nat :=
  [5120, 4096, 1280, 4096, 6656, 3584, 0,
   1280, 292279, 2009407, 2026004, 769341, 322742, 804352,
   1643264, 1853184, 1398016, 698368, 1502976, 768256, 2026752]

def symbolL : State := { configured 1 with modules := gridOf rowsL }

/-- The raw stream loaded under 1-L. -/
def rawL (bytes : List Byte) : State := { withRaw (bitsOf bytes) 0 with ecl := 1#2, maskId := 0#3 }

/-- The state RS_CORRECT leaves. -/
def correctedL : State :=
  { rawL cleanL with mValid := true, msgBuf := bufStore [] 0 (cleanL.take 19), msgLen := 19#12 }

/-- A raw stream of n bits, all 0. -/
def rawLength (n : Nat) : State := { withRaw [] 0 with rawLen := BitVec.ofNat 15 n }

/-- A stored message of n bytes, all 0, with the cursor at pos. -/
def messageLength (n pos : Nat) : State :=
  { withMessage [] pos with msgLen := BitVec.ofNat 12 n }

theorem witness_DecodeOfEncode : (Instr.rawRead 32#6).wf = true ∧ (Instr.maskEval 7#3 255#8 255#8).wf = true := by decide

theorem witness_EncodeOfDecode : decode 0x21000D08#32 = .ok (.dzQuery 8#8 13#8) := by decide

theorem witness_DecodeIsTheOpcodeMap :
    ∃ row ∈ opcodeRows, 0x30000020#32 &&& row.mask = row.pattern ∧ row.counted = true ∧
      ((0x30000020#32).extractLsb' 0 6).toNat ≤ 32 := by decide

theorem witness_IllegalWordRaises :
    (∃ s : State, s.busy = true ∧ s.lag = 0 ∧ ∀ row ∈ opcodeRows, s.cmdl &&& row.mask = row.pattern →
      row.counted = true ∧ 32 < (s.cmdl.extractLsb' 0 6).toNat) ∧
    ∃ s : State, s.busy = true ∧ s.lag = 0 ∧ s.cmdl = 0x30000021#32 ∧
      ∀ row ∈ opcodeRows, s.cmdl &&& row.mask = row.pattern →
        row.counted = true ∧ 32 < (s.cmdl.extractLsb' 0 6).toNat :=
  ⟨⟨{ State.reset with busy := true, cmdl := 0x00000001#32 }, by decide⟩,
    { State.reset with busy := true, cmdl := 0x30000021#32 }, by decide⟩

theorem witness_StepRunsTheLatchedCommand :
    ∃ s t u : State,
      (s.busy = true ∧ s.lag = 0 ∧ decode s.cmdl = .ok .fmtGather) ∧
      (t.busy = true ∧ t.lag ≠ 0 ∧ t.events = [.wait]) ∧ (u.busy = false ∧ u.events = []) :=
  ⟨{ State.reset with busy := true, cmdl := 0x12000000#32, events := [.wait] },
    { State.reset with busy := true, lag := 1, events := [.wait] }, State.reset, by decide⟩

theorem witness_HostWriteRunsItsCommand :
    ∃ s : State, (Instr.rawRead 32#6).wf = true ∧ s.busy = false ∧ s.err = false ∧ s.latencies.headD 0 = 0 ∧
      s.events = .access (.write .word 0x008#15 (encode (.rawRead 32#6))) :: [.wait] :=
  ⟨{ State.reset with
      events := [.access (.write .word 0x008#15 (encode (.rawRead 32#6))), .wait], latencies := [0, 5] }, by decide⟩

theorem witness_CommandEndsWithinItsLag :
    ∃ s : State, s.busy = true ∧ s.lag = 3 ∧ s.events = [.wait, .hardReset] :=
  ⟨{ State.reset with busy := true, lag := 3, events := [.wait, .hardReset] }, by decide⟩

theorem witness_NopAndRewinds :
    (withRaw [] 0).rValid = true ∧ formatted.vValid = true ∧ formatted.fValid = true ∧
      (withMessage [] 0).mValid = true := by decide

theorem witness_SetVersionConfigures :
    (1 ≤ (1#6).toNat ∧ (1#6).toNat ≤ 40) ∧ (1 ≤ (40#6).toNat ∧ (40#6).toNat ≤ 40) ∧ (0#6).toNat = 0 ∧
      40 < (41#6).toNat := by decide

theorem witness_SetSideIsSetVersion :
    (1 ≤ 40 ∧ 40 ≤ 40) ∧
    ∀ side ∈ [17#8, 20#8, 22#8, 178#8, 181#8], ∀ v, 1 ≤ v → v ≤ 40 → side.toNat ≠ 17 + 4 * v := by
  refine ⟨by decide, ?_⟩
  intro side h v h1 h2
  simp only [List.mem_cons, List.not_mem_nil, or_false] at h
  rcases h with rfl | rfl | rfl | rfl | rfl <;> simp <;> omega

theorem witness_SetFormatApplies : (configured 1).vValid = true := by decide

theorem witness_FmtCheckRemainder :
    (0x23D7#15 : BitVec 15) =
      match Sample.s1 with
      | .s1 => { State.reset with fmtS1 := 0x23D7#15 }.fmtS1
      | .s2 => { State.reset with fmtS1 := 0x23D7#15 }.fmtS2 := by decide

theorem witness_FmtGatherReadsTheSamples :
    symbolP3.vValid = true ∧ 21 ≤ symbolP3.side.toNat ∧ symbolP3.drift = false := by decide

theorem witness_FmtDecode1Corrects :
    popcount 0x0007#15 ≤ 3 ∧ ∃ s t : State, s.fmtS1 = fmtCw 8#5 ^^^ 0x0007#15 ∧ s.vValid = false ∧
      t.fmtS1 = fmtCw 8#5 ^^^ 0x0007#15 ∧ t.vValid = true :=
  ⟨by decide, { State.reset with fmtS1 := 0x23D1#15 }, { configured 1 with fmtS1 := 0x23D1#15 }, by decide⟩

theorem witness_FmtDecode1Refuses :
    ∃ s : State, ∀ d : BitVec 5, 3 < popcount (fmtCw d ^^^ s.fmtS1) :=
  ⟨{ State.reset with fmtS1 := 0x23D9#15 }, by decide +kernel⟩

theorem witness_FmtDecode2Corrects :
    popcount 0x0003#15 + popcount 0x000F#15 ≤ 6 ∧ ∃ s t : State, s.fmtS1 = fmtCw 26#5 ^^^ 0x0003#15 ∧
      s.fmtS2 = fmtCw 26#5 ^^^ 0x000F#15 ∧ s.vValid = false ∧ t.fmtS1 = s.fmtS1 ∧ t.fmtS2 = s.fmtS2 ∧
      t.vValid = true :=
  ⟨by decide, { State.reset with fmtS1 := 0x6B20#15, fmtS2 := 0x6B2C#15 },
    { configured 1 with fmtS1 := 0x6B20#15, fmtS2 := 0x6B2C#15 }, by decide⟩

/-- A pair with two nearest values, a pair with one nearest value over the budget, and two codewords. -/
theorem witness_FmtDecode2Refuses :
    (∃ s : State, (∀ d, 7 ≤ popcount (fmtCw d ^^^ s.fmtS1) + popcount (fmtCw d ^^^ s.fmtS2)) ∧
      ∃ d1 d2, d1 ≠ d2 ∧ popcount (fmtCw d1 ^^^ s.fmtS1) + popcount (fmtCw d1 ^^^ s.fmtS2) = 7 ∧
        popcount (fmtCw d2 ^^^ s.fmtS1) + popcount (fmtCw d2 ^^^ s.fmtS2) = 7) ∧
    (∃ s : State, (∀ d, 7 ≤ popcount (fmtCw d ^^^ s.fmtS1) + popcount (fmtCw d ^^^ s.fmtS2)) ∧
      ∃ d, popcount (fmtCw d ^^^ s.fmtS1) + popcount (fmtCw d ^^^ s.fmtS2) = 7 ∧
        ∀ e, popcount (fmtCw e ^^^ s.fmtS1) + popcount (fmtCw e ^^^ s.fmtS2) = 7 → e = d) ∧
    ∃ s : State, (0#5 : BitVec 5) ≠ 1#5 ∧ s.fmtS1 = fmtCw 0#5 ∧ s.fmtS2 = fmtCw 1#5 :=
  ⟨⟨{ State.reset with fmtS2 := 0x0537#15 }, by decide +kernel, 0#5, 1#5, by decide +kernel⟩,
    ⟨{ State.reset with fmtS1 := 0#15, fmtS2 := 0x007F#15 }, by decide +kernel, 0#5, by decide +kernel⟩,
    { State.reset with fmtS2 := 0x0537#15 }, by decide⟩

theorem witness_MaskEvalFormulas : (255 : Nat) = (255#8).toNat ∧ (0 : Nat) = (0#8).toNat := by decide

/-- The versions at both ends and at both sides of the version-info zones' edge. -/
theorem witness_DzQueryFirstZone :
    [1, 6, 7, 40].all (fun v => decide (1 ≤ v ∧ v ≤ 40 ∧ (configured v).vValid = true ∧
      (configured v).version.toNat = v ∧ (configured v).side.toNat = 17 + 4 * v)) = true ∧
    ((20#8).toNat < (configured 1).side.toNat ∧ (0#8).toNat < (configured 1).side.toNat) ∧
      (configured 1).side.toNat ≤ (21#8).toNat := by decide

/-- The functions of the statement for versions 1 and 40, with the right columns of version 1 around the timing column. -/
theorem witness_TraversalVisitsEachModuleOnce :
    ∀ side ∈ [17 + 4 * 1, 17 + 4 * 40], ∃ (right : Nat → Nat) (row : Nat → Nat → Nat),
      (∀ pair, right pair = if side - 1 - 2 * pair ≤ 6 then side - 2 - 2 * pair else side - 1 - 2 * pair) ∧
      (∀ pair i, row pair i = if pair % 2 = 0 then side - 1 - i else i) ∧
      (side = 21 → (List.range 10).map right = [20, 18, 16, 14, 12, 10, 8, 5, 3, 1]) :=
  fun side _ =>
    ⟨fun pair => if side - 1 - 2 * pair ≤ 6 then side - 2 - 2 * pair else side - 1 - 2 * pair,
      fun pair i => if pair % 2 = 0 then side - 1 - i else i, fun _ => rfl, fun _ _ => rfl, fun h => h ▸ rfl⟩

theorem witness_TraversalFillsTheCapacity :
    (configured 40).vValid = true ∧ { configured 40 with fValid := true }.fValid = true ∧
      1 ≤ (configured 40).version.toNat ∧ (configured 40).version.toNat ≤ 40 := by decide

theorem witness_ZzTraverseFillsRawbuf :
    formatted.vValid = true ∧ formatted.fValid = true ∧ formatted.drift = false ∧
      (order 1)[0]? = some (20, 20) := by decide +kernel

theorem witness_RawAppendStores :
    (32#6).toNat ≤ 32 ∧ (rawLength 29616).rValid = true ∧
      (rawLength 29616).rawLen.toNat + (32#6).toNat ≤ 29648 ∧
      29648 < (rawLength 29617).rawLen.toNat + (32#6).toNat := by decide

theorem witness_RawReadReturnsTheBits :
    (32#6).toNat ≤ 32 ∧ (rawLength 32).rValid = true ∧
      (rawLength 32).rawPos.toNat + (32#6).toNat ≤ (rawLength 32).rawLen.toNat ∧
      (rawLength 31).rawLen.toNat < (rawLength 31).rawPos.toNat + (32#6).toNat := by decide

theorem witness_AppendedBitsReadBack :
    (32#6).toNat ≤ 32 ∧ (withRaw [true] 1).rValid = true ∧ (withRaw [true] 1).rawPos = (withRaw [true] 1).rawLen ∧
      (withRaw [true] 1).rawLen.toNat + (32#6).toNat ≤ 29648 := by decide

theorem witness_RsDecodeMeetsItsRule :
    30 ≤ (List.replicate 255 7#8).length ∧ (List.replicate 255 7#8).length ≤ 255 := by decide +kernel

theorem witness_RsDecodeIsSound : rsDecode 7 (cleanL.set 2 0x00#8) = some (cleanL, 1) := by decide +kernel

theorem witness_CodewordsAreFarApart :
    cleanL.length = (List.replicate 26 0#8).length ∧ cleanL.length ≤ 255 ∧ isCodeword 7 cleanL = true ∧
      isCodeword 7 (List.replicate 26 0#8) = true ∧ cleanL ≠ List.replicate 26 0#8 := by decide +kernel

/-- 5-Q has two short and two long blocks: blocks 1 and 2 stand at the edge. -/
theorem witness_DeinterleavePositions :
    (List.replicate 134 0#8).length = dataCw (layoutOf 5 .Q) + (layoutOf 5 .Q).ec * blockCount (layoutOf 5 .Q) ∧
      1 < blockCount (layoutOf 5 .Q) ∧ 2 < blockCount (layoutOf 5 .Q) ∧ (layoutOf 5 .Q).b1 ≤ 2 := by decide +kernel

theorem witness_RsCorrectStoresTheMessage :
    (rawL cleanL).rValid = true ∧ (rawL cleanL).rawLen.toNat = capBits (rawL cleanL) ∧ padValue (rawL cleanL) = 0 ∧
      (∀ b < blockCount (configuredLayout (rawL cleanL)), rsDecode (configuredLayout (rawL cleanL)).ec
        (blockOf (configuredLayout (rawL cleanL)) (rawBytes (rawL cleanL)) b) = some (cleanL, 0)) ∧
      ∀ b < blockCount (configuredLayout (rawL cleanL)), isCodeword (configuredLayout (rawL cleanL)).ec
        (blockOf (configuredLayout (rawL cleanL)) (rawBytes (rawL cleanL)) b) = true := by decide +kernel

/-- A version 2-M stream with a remainder bit set, and a 1-L stream with four bytes changed. -/
theorem witness_RsCorrectRaisesTheFirstError :
    ((withRaw [] 0).rValid = true ∧ (withRaw [] 0).rawLen.toNat ≠ capBits (withRaw [] 0)) ∧
    (∃ s : State, s.rValid = true ∧ s.rawLen.toNat = capBits s ∧ padValue s ≠ 0) ∧
    ∃ s : State, s.rValid = true ∧ s.rawLen.toNat = capBits s ∧ padValue s = 0 ∧
      0 < blockCount (configuredLayout s) ∧
      rsDecode (configuredLayout s).ec (blockOf (configuredLayout s) (rawBytes s) 0) = none ∧
      ∀ a < 0, rsDecode (configuredLayout s).ec (blockOf (configuredLayout s) (rawBytes s) a) ≠ none :=
  ⟨by decide,
    ⟨{ configured 2 with fValid := true, rValid := true, rawLen := 359#15, rawBuf := [(358, true)] }, by decide +kernel⟩,
    rawL ((((cleanL.set 0 0#8).set 5 0#8).set 9 0#8).set 17 0#8), by decide +kernel⟩

theorem correctedL_inv : Inv correctedL := by
  constructor <;> decide +kernel

theorem correctedL_isCorrected : MessageIsCorrected correctedL :=
  fun _ => ⟨by decide +kernel, by decide +kernel, cleanL.take 19, 0, by decide +kernel, by decide +kernel,
    by decide +kernel⟩

theorem witness_RsCorrectRepeats : Inv correctedL ∧ MessageIsCorrected correctedL ∧ correctedL.mValid = true :=
  ⟨correctedL_inv, correctedL_isCorrected, by decide⟩

theorem witness_MsgReadReturnsTheBits :
    (32#6).toNat ≤ 32 ∧ (messageLength 4 0).mValid = true ∧
      (messageLength 4 0).msgPos.toNat + (32#6).toNat ≤ 8 * (messageLength 4 0).msgLen.toNat ∧
      8 * (messageLength 4 1).msgLen.toNat < (messageLength 4 1).msgPos.toNat + (32#6).toNat := by decide

theorem witness_SegModeByIndicator :
    (∀ m ∈ [0#4, 1#4, 2#4, 3#4, 4#4, 5#4, 6#4, 7#4] ++ [8#4, 9#4, 10#4, 11#4, 12#4, 13#4, 14#4, 15#4],
      (withMessage [(0#4 ++ m : BitVec 8)] 4).mValid = true ∧ (withMessage [(0#4 ++ m : BitVec 8)] 4).sstate = .idle ∧
        (withMessage [(0#4 ++ m : BitVec 8)] 4).msgPos.toNat + 4 ≤
          8 * (withMessage [(0#4 ++ m : BitVec 8)] 4).msgLen.toNat ∧
        messageBits (withMessage [(0#4 ++ m : BitVec 8)] 4) 4 4 = m.toNat) ∧
    8 * (messageLength 1 5).msgLen.toNat < (messageLength 1 5).msgPos.toNat + 4 := by decide +kernel

/-- Every count width, at both ends of its tier: a state in MODE_READ whose count field ends with the message, and one
whose field is one bit too long. -/
theorem witness_SegCountWidths :
    ∀ e ∈ [(1, 1#4, 10), (9, 2#4, 9), (9, 4#4, 8), (9, 8#4, 8), (10, 1#4, 12), (26, 2#4, 11), (10, 4#4, 16)] ++
        [(26, 8#4, 10), (27, 1#4, 14), (40, 2#4, 13), (40, 4#4, 16), (27, 8#4, 12)],
      (∃ s : State, s.sstate = .modeRead ∧ s.version.toNat = e.1 ∧ s.segMode = e.2.1 ∧
        countWidth s = e.2.2 ∧ s.msgPos.toNat + e.2.2 = 8 * s.msgLen.toNat) ∧
      ∃ s : State, s.sstate = .modeRead ∧ s.version.toNat = e.1 ∧ s.segMode = e.2.1 ∧
        countWidth s = e.2.2 ∧ 8 * s.msgLen.toNat < s.msgPos.toNat + e.2.2 := by
  intro e he
  refine ⟨⟨{ configured e.1 with
      sstate := .modeRead, segMode := e.2.1, mValid := true, msgLen := 2#12, msgPos := BitVec.ofNat 15 (16 - e.2.2) },
      rfl, ?_, rfl, ?_⟩,
    ⟨{ configured e.1 with
      sstate := .modeRead, segMode := e.2.1, mValid := true, msgLen := 2#12, msgPos := BitVec.ofNat 15 (17 - e.2.2) },
      rfl, ?_, rfl, ?_⟩⟩ <;> (revert e; decide +kernel)

theorem witness_SegPayloadBytesAndKanji :
    (∃ s : State, s.sstate = .countRead ∧ s.segCount = 2#16 ∧ s.segMode = 4#4 ∧
      s.msgPos.toNat + 8 * 2 ≤ 8 * s.msgLen.toNat) ∧
    ∃ s : State, s.sstate = .countRead ∧ s.segCount = 1#16 ∧ s.segMode = 8#4 ∧
      s.msgPos.toNat + 13 * 1 ≤ 8 * s.msgLen.toNat :=
  ⟨⟨inSegment [0x41#8, 0x42#8] 0 4#4 2, by decide⟩, inSegment [0x41#8, 0x42#8] 3 8#4 1, by decide⟩

/-- "123" and "42", "123" and "7" in the shapes of vectors S1 and S2, and an empty segment. -/
theorem witness_SegPayloadNumeric :
    (∀ e ∈ [([0x1E#8, 0xD5#8, 0x00#8], 5), ([0x1E#8, 0xDC#8], 4), ([0x1E#8, 0xC0#8], 3), ([], 0)],
      ∃ s : State, s.sstate = .countRead ∧ s.segMode = 1#4 ∧ s.segCount.toNat = e.2 ∧ s.msgPos.toNat = 0 ∧
        10 * (e.2 / 3) + (if e.2 % 3 = 2 then 7 else if e.2 % 3 = 1 then 4 else 0) ≤ 8 * s.msgLen.toNat ∧
        (∀ g < e.2 / 3, messageBits s (10 * g) 10 ≤ 999) ∧
        (e.2 % 3 = 2 → messageBits s (10 * (e.2 / 3)) 7 ≤ 99) ∧
        (e.2 % 3 = 1 → messageBits s (10 * (e.2 / 3)) 4 ≤ 9)) := by
  intro e he
  refine ⟨inSegment e.1 0 1#4 e.2, rfl, rfl, ?_⟩
  revert e
  decide +kernel

theorem witness_SegPayloadAlphanumeric :
    ∃ s : State, s.sstate = .countRead ∧ s.segMode = 2#4 ∧ s.segCount.toNat = 3 ∧ s.msgPos.toNat = 0 ∧
      11 * (3 / 2) + 6 ≤ 8 * s.msgLen.toNat ∧ (∀ g < 3 / 2, messageBits s (11 * g) 11 < 2025) ∧
      messageBits s (11 * (3 / 2)) 6 < 45 :=
  ⟨inSegment [0x39#8, 0xC5#8, 0x00#8] 0 2#4 3, by decide +kernel⟩

theorem witness_SegPayloadFirstFailureWins :
    (∃ s : State, s.sstate = .countRead ∧ s.segMode = 4#4 ∧ s.segCount = 2#16 ∧
      8 * s.msgLen.toNat < s.msgPos.toNat + 8 * 2) ∧
    (∃ s : State, s.sstate = .countRead ∧ s.segMode = 8#4 ∧ s.segCount = 1#16 ∧
      8 * s.msgLen.toNat < s.msgPos.toNat + 13 * 1) ∧
    (∃ s : State, s.sstate = .countRead ∧ s.segMode = 1#4 ∧ s.segCount = 6#16 ∧ s.msgPos.toNat = 0 ∧
      messageBits s 0 10 ≤ 999 ∧ 10 ≤ 8 * s.msgLen.toNat ∧ 8 * s.msgLen.toNat < 20) ∧
    (∃ s : State, s.sstate = .countRead ∧ s.segMode = 1#4 ∧ s.segCount = 6#16 ∧ s.msgPos.toNat = 0 ∧
      10 ≤ 8 * s.msgLen.toNat ∧ messageBits s 0 10 = 1000) ∧
    (∃ s : State, s.sstate = .countRead ∧ s.segMode = 2#4 ∧ s.segCount = 2#16 ∧ s.msgPos.toNat = 0 ∧
      8 * s.msgLen.toNat < 11) ∧
    ∃ s : State, s.sstate = .countRead ∧ s.segMode = 2#4 ∧ s.segCount = 2#16 ∧ s.msgPos.toNat = 0 ∧
      11 ≤ 8 * s.msgLen.toNat ∧ messageBits s 0 11 = 2025 :=
  ⟨⟨inSegment [0x41#8] 0 4#4 2, by decide⟩, ⟨inSegment [0x41#8] 0 8#4 1, by decide⟩,
    ⟨inSegment [0x1E#8, 0xC0#8] 0 1#4 6, by decide +kernel⟩, ⟨inSegment [0xFA#8, 0x00#8] 0 1#4 6, by decide +kernel⟩,
    ⟨inSegment [0x41#8] 0 2#4 2, by decide⟩, inSegment [0xFD#8, 0x20#8] 0 2#4 2, by decide +kernel⟩

/-- The final group: too long, and out of range, for each of its three widths. -/
theorem witness_SegPayloadFirstFailureWins_lastGroup :
    (∃ s : State, s.sstate = .countRead ∧ s.segMode = 1#4 ∧ s.segCount.toNat = 5 ∧ s.msgPos.toNat = 0 ∧
      messageBits s 0 10 ≤ 999 ∧ 10 ≤ 8 * s.msgLen.toNat ∧ 8 * s.msgLen.toNat < 10 + 7) ∧
    (∃ s : State, s.sstate = .countRead ∧ s.segMode = 1#4 ∧ s.segCount.toNat = 5 ∧ s.msgPos.toNat = 0 ∧
      messageBits s 0 10 ≤ 999 ∧ 10 + 7 ≤ 8 * s.msgLen.toNat ∧ messageBits s 10 7 = 100) ∧
    (∃ s : State, s.sstate = .countRead ∧ s.segMode = 1#4 ∧ s.segCount.toNat = 1 ∧ s.msgPos.toNat = 5 ∧
      8 * s.msgLen.toNat < 5 + 4) ∧
    (∃ s : State, s.sstate = .countRead ∧ s.segMode = 1#4 ∧ s.segCount.toNat = 1 ∧ s.msgPos.toNat = 4 ∧
      4 + 4 ≤ 8 * s.msgLen.toNat ∧ messageBits s 4 4 = 10) ∧
    (∃ s : State, s.sstate = .countRead ∧ s.segMode = 2#4 ∧ s.segCount.toNat = 3 ∧ s.msgPos.toNat = 0 ∧
      messageBits s 0 11 < 2025 ∧ 11 ≤ 8 * s.msgLen.toNat ∧ 8 * s.msgLen.toNat < 11 + 6) ∧
    ∃ s : State, s.sstate = .countRead ∧ s.segMode = 2#4 ∧ s.segCount.toNat = 1 ∧ s.msgPos.toNat = 2 ∧
      2 + 6 ≤ 8 * s.msgLen.toNat ∧ messageBits s 2 6 = 45 :=
  ⟨⟨inSegment [0x1E#8, 0xC0#8] 0 1#4 5, by decide +kernel⟩,
    ⟨inSegment [0x1E#8, 0xF2#8, 0x00#8] 0 1#4 5, by decide +kernel⟩,
    ⟨inSegment [0x00#8] 5 1#4 1, by decide +kernel⟩, ⟨inSegment [0x0A#8] 4 1#4 1, by decide +kernel⟩,
    ⟨inSegment [0x39#8, 0xC5#8] 0 2#4 3, by decide +kernel⟩, inSegment [0x2D#8] 2 2#4 1, by decide +kernel⟩

/-- Vector S7 succeeds and vector S10 fails. -/
theorem witness_SegDecodeIsTheThreeCommands :
    ∀ e ∈ [([0x20#8, 0x09#8, 0x40#8], false), ([0x20#8, 0x0D#8, 0xA0#8], true)],
      (withMessage e.1 0).mValid = true ∧ (withMessage e.1 0).sstate = .idle ∧ (withMessage e.1 0).err = false ∧
        (match runUntilError [.segMode, .segCount, .segPayload] (withMessage e.1 0) with
          | .next u => u.err == e.2
          | .fault _ => false
          | .refused _ => false) = true := by decide +kernel

theorem witness_SegDecodeOfAByteSegment :
    ∃ s : State, s.mValid = true ∧ s.sstate = .idle ∧ s.msgPos.toNat = 0 ∧ messageBits s 0 4 = 4 ∧
      s.version.toNat ≤ 9 ∧ messageBits s 4 8 = 3 ∧ 4 + 8 + 8 * 3 ≤ 8 * s.msgLen.toNat :=
  ⟨withMessage [0x40#8, 0x30#8, 0x0F#8, 0xF8#8, 0x00#8] 0, by decide +kernel⟩

theorem witness_DecodeAllIsTheFiveCommands : symbolP3.vValid = true ∧ symbolP3.err = false := by decide

theorem witness_DecodeAllOnAnErrorFreeSymbol :
    (∀ bit ∈ (symbolBits symbolL.modules 1 0#3).drop (8 * totalCw 1), bit = false) ∧
    (symbolBits symbolL.modules 1 0#3).length = capBitsOf 1 ∧
    (∀ b < blockCount (layoutOf 1 .L), isCodeword (layoutOf 1 .L).ec
      (blockOf (layoutOf 1 .L) (bytesOf (totalCw 1) (symbolBits symbolL.modules 1 0#3)) b) = true) ∧
    gatherSample symbolL formatPositions1 = fmtCw 8#5 ∧ gatherSample symbolL formatPositions2 = fmtCw 8#5 ∧
    levelOf ((8#5).extractLsb' 3 2) = .L ∧ (8#5).extractLsb' 0 3 = 0#3 ∧ symbolL.vValid = true ∧
    symbolL.drift = false ∧ symbolL.version.toNat = 1 ∧ symbolL.side.toNat = 17 + 4 * 1 := by decide +kernel

theorem witness_DecodeAllOnAnErrorFreeSymbol_segment :
    bitsAt (dataOf (layoutOf 1 .L) (bytesOf (totalCw 1) (symbolBits symbolL.modules 1 0#3))) 0 4 = 4 ∧
    bitsAt (dataOf (layoutOf 1 .L) (bytesOf (totalCw 1) (symbolBits symbolL.modules 1 0#3))) 4 8 = 2 ∧
    4 + 8 + 8 * 2 ≤ 8 * dataCw (layoutOf 1 .L) := by decide +kernel

theorem witness_StepKeepsInv :
    ∃ s t : State, Inv s ∧ s.events = [.hardReset] ∧ step s = .next t :=
  ⟨{ correctedL with events := [.hardReset] }, _,
    ⟨fun _ => rfl, fun _ => rfl, fun _ => rfl, fun _ => rfl, correctedL_inv.version_range,
      correctedL_inv.side_of_version, correctedL_inv.no_version, correctedL_inv.no_format, fun _ => ⟨rfl, rfl⟩,
      correctedL_inv.some_error, fun _ => rfl, correctedL_inv.raw_bound, correctedL_inv.raw_cursor,
      correctedL_inv.no_raw,
      correctedL_inv.message_length, correctedL_inv.message_bound, correctedL_inv.message_cursor,
      correctedL_inv.no_message, correctedL_inv.no_segment, correctedL_inv.mode_accepted,
      correctedL_inv.output_bound, correctedL_inv.memory⟩, rfl, rfl⟩

theorem witness_StepKeepsTheMessageCorrected :
    MessageIsCorrected correctedL ∧ correctedL.mValid = true ∧ ∃ t, step correctedL = .next t :=
  ⟨correctedL_isCorrected, by decide, step_is_next correctedL⟩

/-- A failing RAW_READ, and a SEG_PAYLOAD that fails with a payload behind it. -/
theorem witness_FailingCommandRollsBack :
    (withRaw [] 0).err = false ∧ leaves (.rawRead 1#6) (withRaw [] 0) (·.err) = true ∧
      leaves .segPayload { inSegment [] 0 4#4 1 with outLen := 5#14 } (·.err) = true := by decide +kernel

theorem witness_CommandsRaiseTheirOwnErrors :
    State.reset.err = false ∧ (Instr.msgRead 33#6).wf = false ∧ (Instr.msgRead 32#6).wf = true ∧
      precondition (.msgRead 32#6) State.reset = false ∧ precondition .segDecode correctedL = true := by decide +kernel

/-- SEG_COUNT is in none of the lists but its own. -/
theorem witness_RegistersHaveTheirWriters :
    ∃ t, exec .segCount correctedL = .next t ∧ mnemonicOf .segCount ∉
      ["SET_VERSION", "SET_SIDE", "SET_FORMAT", "FMT_DECODE1", "FMT_DECODE2", "DECODE_ALL"] ++
        ["ZZ_TRAVERSE", "RAW_CLEAR"] ++ ["RAW_APPEND", "RS_CORRECT"] ++ ["MSG_REWIND", "SEG_DECODE"] :=
  (exec_is_next .segCount correctedL).imp fun _ h => ⟨h, by decide⟩

theorem witness_ModulePortIndependence :
    mnemonicOf .rsCorrect ∉ ["FMT_GATHER", "ZZ_TRAVERSE", "DECODE_ALL"] ∧
      ∀ k < capBitsOf (rawL cleanL).version.toNat,
        bufRead (bufStore (rawL cleanL).rawBuf 208 [true]) k = bufRead (rawL cleanL).rawBuf k := by decide +kernel

theorem witness_WritesAreTakenOrDropped :
    { State.reset with busy := true }.busy = true ∧ { State.reset with err := true }.err = true ∧
      State.reset.busy = false ∧ State.reset.err = false := by decide

theorem witness_CtrlActions :
    (3#32).getLsbD 0 = true ∧ (2#32).getLsbD 0 = false ∧ (2#32).getLsbD 1 = true ∧ (4#32).getLsbD 0 = false ∧
      (4#32).getLsbD 1 = false := by decide

/-- The first and last offset of each range. -/
theorem witness_BusErrorsAndIgnoredWrites :
    [0x0054#15, 0x0FFC#15].all (fun o => 0x54 ≤ o.toNat && o.toNat < 0x1000) = true ∧
    [0x3000#15, 0x3FFC#15].all (fun o => 0x3000 ≤ o.toNat && o.toNat < 0x4000) = true ∧
    (0x0001#15).toNat % 4 ≠ 0 ∧ Width.half ≠ .word ∧
    [0x0000#15, 0x0050#15].all (fun o => o.toNat % 4 == 0 && o.toNat < 0x54 &&
      !([0x004#15, 0x008#15, 0x018#15, 0x020#15, 0x024#15].contains o)) = true ∧
    [0x1000#15, 0x2FFC#15].all (fun o => o.toNat % 4 == 0 && 0x1000 ≤ o.toNat && o.toNat < 0x3000) = true ∧
    [0x4000#15, 0x7FFC#15].all (fun o => o.toNat % 4 == 0 && 0x4000 ≤ o.toNat) = true := by decide

theorem witness_ReadsHaveNoSideEffect :
    State.reset.busy = false ∧
      (handleEvent (.access (.read .word 0x000#15)) State.reset).reply = .data 0x51520100#32 ∧
      { State.reset with busy := true }.busy = true := by decide +kernel

theorem witness_WindowsShowTheBuffers : correctedL.busy = false := by decide

theorem witness_StatusConfigAndLayoutWords :
    correctedL.busy = false ∧ correctedL.fValid = true ∧ State.reset.fValid = false := by decide

theorem witness_PstateFollowsTheValidBits :
    Inv correctedL ∧ correctedL.rValid = true := ⟨correctedL_inv, by decide⟩

end Sys2Proof.Tests
end

section
/-! SUPPORT. The length of the zig-zag order is the raw capacity of its version (41_zigzag_reader.md R141, R142, R148):
the unreserved modules are counted by cutting the reserved zones out of the symbol's square. -/

namespace Sys2Proof.Machine

/-- The unreserved modules of the columns in [x0, x1) and the rows in [y0, y1). -/
def freeSet (zones : List Zone) (x0 x1 y0 y1 : Nat) : Finset (Nat × Nat) :=
  (Finset.Ico x0 x1 ×ˢ Finset.Ico y0 y1).filter fun p => reservedIn zones p.1 p.2 = false

/-- The number of them, computed: a zone that meets the rectangle leaves the strips to its left and right and, in its
own columns, those above and below it. -/
def freeArea : List Zone → (x0 x1 y0 y1 : Nat) → Nat
  | [], x0, x1, y0, y1 => (x1 - x0) * (y1 - y0)
  | z :: zones, x0, x1, y0, y1 =>
    bif x1.ble x0 || y1.ble y0 then 0
    else bif z.x1.blt x0 || x1.ble z.x0 || z.y1.blt y0 || y1.ble z.y0 then freeArea zones x0 x1 y0 y1
    else
      freeArea zones x0 (min x1 z.x0) y0 y1 + freeArea zones (max x0 (z.x1 + 1)) x1 y0 y1
        + (freeArea zones (max x0 z.x0) (min x1 (z.x1 + 1)) y0 (min y1 z.y0)
          + freeArea zones (max x0 z.x0) (min x1 (z.x1 + 1)) (max y0 (z.y1 + 1)) y1)

/-- Both sides of the rectangle are in their order. -/
def Zone.proper (z : Zone) : Bool := z.x0.ble z.x1 && z.y0.ble z.y1

theorem mem_freeSet (zones : List Zone) (x0 x1 y0 y1 : Nat) (p : Nat × Nat) :
    p ∈ freeSet zones x0 x1 y0 y1 ↔
      ((x0 ≤ p.1 ∧ p.1 < x1) ∧ y0 ≤ p.2 ∧ p.2 < y1) ∧ reservedIn zones p.1 p.2 = false := by
  simp [freeSet]

theorem reservedIn_cons_eq_false_iff (z : Zone) (zones : List Zone) (x y : Nat) :
    reservedIn (z :: zones) x y = false ↔
      ¬ (z.x0 ≤ x ∧ x ≤ z.x1 ∧ z.y0 ≤ y ∧ y ≤ z.y1) ∧ reservedIn zones x y = false := by
  simp [reservedIn, inZone, and_assoc]

/-- A zone that misses the rectangle reserves nothing of it. -/
theorem freeSet_cons_of_apart (z : Zone) (zones : List Zone) (x0 x1 y0 y1 : Nat)
    (h : z.x1 < x0 ∨ x1 ≤ z.x0 ∨ z.y1 < y0 ∨ y1 ≤ z.y0) :
    freeSet (z :: zones) x0 x1 y0 y1 = freeSet zones x0 x1 y0 y1 := by
  ext p
  rw [mem_freeSet, mem_freeSet, reservedIn_cons_eq_false_iff]
  constructor
  · exact fun ⟨hp, _, hfree⟩ => ⟨hp, hfree⟩
  · exact fun ⟨hp, hfree⟩ => ⟨hp, by omega, hfree⟩

/-- The unreserved modules of a rectangle a zone meets: left of it, right of it, above it, below it. -/
theorem freeSet_cons_card (z : Zone) (zones : List Zone) (x0 x1 y0 y1 : Nat) (hx : z.x0 ≤ z.x1) (hy : z.y0 ≤ z.y1) :
    (freeSet (z :: zones) x0 x1 y0 y1).card =
      (freeSet zones x0 (min x1 z.x0) y0 y1).card + (freeSet zones (max x0 (z.x1 + 1)) x1 y0 y1).card
        + ((freeSet zones (max x0 z.x0) (min x1 (z.x1 + 1)) y0 (min y1 z.y0)).card
          + (freeSet zones (max x0 z.x0) (min x1 (z.x1 + 1)) (max y0 (z.y1 + 1)) y1).card) := by
  have hsplit : freeSet (z :: zones) x0 x1 y0 y1 =
      freeSet zones x0 (min x1 z.x0) y0 y1 ∪ freeSet zones (max x0 (z.x1 + 1)) x1 y0 y1
        ∪ (freeSet zones (max x0 z.x0) (min x1 (z.x1 + 1)) y0 (min y1 z.y0)
          ∪ freeSet zones (max x0 z.x0) (min x1 (z.x1 + 1)) (max y0 (z.y1 + 1)) y1) := by
    ext p
    simp only [Finset.mem_union, mem_freeSet, reservedIn_cons_eq_false_iff]
    cases reservedIn zones p.1 p.2 <;> simp
    omega
  rw [hsplit, Finset.card_union_of_disjoint, Finset.card_union_of_disjoint, Finset.card_union_of_disjoint]
  all_goals
    refine Finset.disjoint_left.mpr fun p => ?_
    simp only [Finset.mem_union, mem_freeSet]
    omega

theorem freeArea_eq_card (zones : List Zone) (hproper : ∀ z ∈ zones, z.proper = true) (x0 x1 y0 y1 : Nat) :
    freeArea zones x0 x1 y0 y1 = (freeSet zones x0 x1 y0 y1).card := by
  induction zones generalizing x0 x1 y0 y1 with
  | nil => simp [freeArea, freeSet, reservedIn]
  | cons z zones ih =>
    have ih := ih fun z' hz' => hproper z' (List.mem_cons_of_mem _ hz')
    obtain ⟨hx, hy⟩ : z.x0 ≤ z.x1 ∧ z.y0 ≤ z.y1 := by
      simpa [Zone.proper] using hproper z List.mem_cons_self
    simp only [freeArea, Bool.cond_eq_ite, Bool.or_eq_true, Nat.ble_eq, Nat.blt_eq]
    split
    · next hempty =>
      refine (Finset.card_eq_zero.mpr (Finset.eq_empty_of_forall_notMem fun p hp => ?_)).symm
      have := (mem_freeSet _ _ _ _ _ p).mp hp
      omega
    · split
      · next hapart => rw [freeSet_cons_of_apart z zones _ _ _ _ (by omega), ih]
      · rw [freeSet_cons_card z zones _ _ _ _ hx hy, ih, ih, ih, ih]

/-- Every zone of every version is a rectangle. -/
theorem zonesOf_proper : ∀ v ∈ List.range' 1 40, (zonesOf v).all Zone.proper = true := by
  decide +kernel

/-- The zones of every version leave as many modules as its raw capacity. -/
theorem zonesOf_leave_capacity : ∀ v ∈ List.range' 1 40,
    freeArea (zonesOf v) 0 (sideOf v) 0 (sideOf v) = capBitsOf v := by
  decide +kernel

/-- The unreserved modules of one column. -/
def columnFree (zones : List Zone) (side x : Nat) : Nat :=
  (List.range side).countP fun y => !reservedIn zones x y

theorem countP_range_reflect (p : Nat → Bool) (n : Nat) :
    (List.range n).countP (fun i => p (n - 1 - i)) = (List.range n).countP p := by
  have hreverse : (List.range n).map (fun i => n - 1 - i) = (List.range n).reverse := by
    refine List.ext_getElem (by simp) fun i h1 h2 => ?_
    simp
  rw [← List.countP_reverse (l := List.range n) (p := p), ← hreverse, List.countP_map]
  rfl

theorem length_flatMap_filter_pair {α β : Type} (l : List α) (f g : α → β) (p : β → Bool) :
    (l.flatMap fun i => [f i, g i].filter p).length = l.countP (fun i => p (f i)) + l.countP (fun i => p (g i)) := by
  induction l with
  | nil => rfl
  | cons a l ih =>
    rw [List.flatMap_cons, List.length_append, ih, List.countP_cons, List.countP_cons]
    cases hf : p (f a) <;> cases hg : p (g a) <;> simp [hf, hg] <;> omega

/-- A pair of columns holds the unreserved modules of both, whichever way its rows run. -/
theorem pairOrder_length (zones : List Zone) (side x : Nat) (up : Bool) :
    (pairOrder zones side x up).length = columnFree zones side x + columnFree zones side (x - 1) := by
  unfold pairOrder columnFree
  rw [length_flatMap_filter_pair]
  cases up
  · rfl
  · simp only [if_true]
    rw [countP_range_reflect (fun y => !reservedIn zones x y),
      countP_range_reflect (fun y => !reservedIn zones (x - 1) y)]

/-- The traversal from a right column on visits the unreserved modules of that column and of all columns to its left: it
meets every column once but the timing column, which holds none. -/
theorem orderFrom_length (zones : List Zone) (side : Nat) (htiming : columnFree zones side 6 = 0) (fuel x : Nat)
    (up : Bool) (hfuel : x ≤ fuel) (hx : (6 ≤ x ∧ x % 2 = 0) ∨ (x < 6 ∧ x % 2 = 1)) :
    (orderFrom zones side fuel x up).length = ∑ c ∈ Finset.range (x + 1), columnFree zones side c := by
  induction fuel generalizing x up with
  | zero => omega
  | succ fuel ih =>
    have hstep : ∀ k, k ≤ fuel + 1 → (8 ≤ k ∧ k % 2 = 0) ∨ (k < 6 ∧ k % 2 = 1) →
        (pairOrder zones side k up).length + (orderFrom zones side fuel (k - 2) (!up)).length =
          ∑ c ∈ Finset.range (k + 1), columnFree zones side c := by
      intro k hk hpar
      rw [pairOrder_length]
      obtain rfl | hk2 : k = 1 ∨ 3 ≤ k := by omega
      · have hend : orderFrom zones side fuel 0 (!up) = [] := by cases fuel <;> rfl
        simp [hend, Finset.sum_range_succ, Nat.add_comm]
      · rw [ih (k - 2) (!up) (by omega) (by omega)]
        obtain ⟨j, rfl⟩ : ∃ j, k = j + 2 := ⟨k - 2, by omega⟩
        rw [Finset.sum_range_succ _ (j + 2), Finset.sum_range_succ _ (j + 1)]
        simp only [Nat.add_sub_cancel, show j + 2 - 1 = j + 1 by omega]
        ring
    rw [orderFrom, if_neg (by omega), List.length_append]
    by_cases h6 : x = 6
    · subst h6
      rw [Finset.sum_range_succ, htiming]
      exact hstep 5 (by omega) (by omega)
    · rw [skipTiming, if_neg h6]
      exact hstep x hfuel (by omega)

theorem card_freeSet_column (zones : List Zone) (side n : Nat) :
    ∑ x ∈ Finset.range n, columnFree zones side x = (freeSet zones 0 n 0 side).card := by
  rw [freeSet, Finset.card_filter, Finset.sum_product, Nat.Ico_zero_eq_range, Nat.Ico_zero_eq_range]
  refine Finset.sum_congr rfl fun x _ => ?_
  rw [← Finset.card_filter, columnFree, List.countP_eq_length_filter]
  simp [Finset.card, Finset.filter, Finset.range, Multiset.range]

/-- The traversal fills the raw capacity of its version. -/
theorem order_length (v : Nat) (h1 : 1 ≤ v) (h40 : v ≤ 40) : (order v).length = capBitsOf v := by
  have hv : v ∈ List.range' 1 40 := by simp; omega
  have htiming : columnFree (zonesOf v) (sideOf v) 6 = 0 := by
    refine List.countP_eq_zero.mpr fun y hy => ?_
    have hzone : (⟨.TV, 6, 0, 6, sideOf v - 1⟩ : Zone) ∈ zonesOf v := by simp [zonesOf, timingZones]
    have hrow : y < sideOf v := List.mem_range.mp hy
    simp only [Bool.not_eq_true', Bool.not_eq_false, reservedIn]
    exact List.any_eq_true.mpr ⟨_, hzone, by simp [inZone]; omega⟩
  have hside : sideOf v = 17 + 4 * v := rfl
  calc (order v).length
      = ∑ c ∈ Finset.range (sideOf v - 1 + 1), columnFree (zonesOf v) (sideOf v) c :=
        orderFrom_length _ _ htiming _ _ _ (by omega) (by omega)
    _ = (freeSet (zonesOf v) 0 (sideOf v) 0 (sideOf v)).card := by
        rw [card_freeSet_column, Nat.sub_add_cancel (by omega)]
    _ = freeArea (zonesOf v) 0 (sideOf v) 0 (sideOf v) :=
        (freeArea_eq_card _ (List.all_eq_true.mp (zonesOf_proper v hv)) _ _ _ _).symm
    _ = capBitsOf v := zonesOf_leave_capacity v hv

/-- No version a VERSION field can hold has more raw bits than RAWBUF (00_scope.md R9, 10_state.md R34). -/
theorem capBitsOf_le : ∀ v < 64, capBitsOf v ≤ Config.rawbufBits := by
  decide +kernel

end Sys2Proof.Machine
end

section
/-! SUPPORT. The register page of the bus (10_state.md R22): a word access at a register's offset reaches it. The
statements about the page, the clearing procedures and PSTATE. -/

namespace Sys2Proof.Machine

theorem accessTarget_registerOffset (r : Reg) : accessTarget .word (registerOffset r) = some (.reg r) := by
  cases r <;> rfl

/-- A word read at a register's offset with BUSY = 0 answers the register's word and changes nothing else. -/
theorem handleEvent_readRegister (r : Reg) (s : State) (hbusy : s.busy = false) :
    handleEvent (.access (.read .word (registerOffset r))) s = { s with reply := .data (readRegister r s) } := by
  simp [handleEvent, hostAccess, hostRead, accessTarget_registerOffset, hbusy, readTarget]

/-- A word write at a register's offset is that register's write, completed on the bus. -/
theorem handleEvent_writeRegister (r : Reg) (v : Word) (s : State) :
    handleEvent (.access (.write .word (registerOffset r) v)) s = { writeRegister r v s with reply := .written } := by
  simp [handleEvent, hostAccess, hostWrite, accessTarget_registerOffset, writeTarget]

/-- A CMD write submits the word. -/
theorem handleEvent_cmdWrite (w : Word) (s : State) :
    handleEvent (.access (.write .word (registerOffset .cmd) w)) s = { submitCommand w s with reply := .written } :=
  handleEvent_writeRegister .cmd w s

theorem registerOffset_of_index (k : Fin 21) :
    registerOffset (registerMap[k]) = BitVec.ofNat 15 (4 * k) := by
  revert k
  decide

/-- Right after reset every register of the page reads 0 but ID (70_reset_and_hazards.md R261). -/
theorem readRegister_reset (k : Fin 21) :
    readRegister registerMap[k] State.reset = if k.val = 0 then 0x51520100#32 else 0#32 := by
  revert k
  decide

theorem submitCommand_of_refusing (v : Word) (s : State) (h : s.busy = true ∨ s.err = true) :
    submitCommand v s = { s with overrun := true } := by
  rcases submitCommand_cases v s with ⟨_, hdrop⟩ | ⟨hbusy, herr, _⟩
  · exact hdrop
  · simp [hbusy, herr] at h

theorem submitCommand_of_accepting (v : Word) (s : State) (hbusy : s.busy = false) (herr : s.err = false) :
    submitCommand v s =
      { latchCommand v s with lag := s.latencies.headD 0, latencies := s.latencies.tail } := by
  simp [submitCommand, hbusy, herr]

theorem writeOperand_of_busy (s t : State) (h : s.busy = true) : writeOperand s t = { s with overrun := true } := by
  simp [writeOperand, h]

theorem writeOperand_of_idle (s t : State) (h : s.busy = false) : writeOperand s t = t := by
  simp [writeOperand, h]

/-- Settles O13: each procedure is written out in the model as R49 writes it, and the update lemmas of the four say what
they leave. -/
theorem clearingCascades : Obligations.ClearingCascades := by
  unfold Obligations.ClearingCascades
  refine fun s => ⟨rfl, rfl, rfl, rfl, ?_⟩
  intro clear hclear
  simp only [List.mem_cons, List.not_mem_nil, or_false] at hclear
  rcases hclear with rfl | rfl | rfl | rfl <;> simp

/-- Settles O54: a CMD or operand write reaches its register, and there it is taken or dropped. -/
theorem writesAreTakenOrDropped : Obligations.WritesAreTakenOrDropped := by
  unfold Obligations.WritesAreTakenOrDropped
  intro s v
  have hcmd : handleEvent (.access (.write .word 0x008#15 v)) s = { submitCommand v s with reply := .written } :=
    handleEvent_cmdWrite v s
  have hwdata : handleEvent (.access (.write .word 0x018#15 v)) s =
      { writeOperand s { s with wdata := v } with reply := .written } := handleEvent_writeRegister .wdata v s
  have hs1 : handleEvent (.access (.write .word 0x020#15 v)) s =
      { writeOperand s { s with fmtS1 := v.extractLsb' 0 15 } with reply := .written } :=
    handleEvent_writeRegister .fmtS1 v s
  have hs2 : handleEvent (.access (.write .word 0x024#15 v)) s =
      { writeOperand s { s with fmtS2 := v.extractLsb' 0 15 } with reply := .written } :=
    handleEvent_writeRegister .fmtS2 v s
  refine ⟨fun h => ?_, fun hbusy herr => ?_, fun hbusy offset hoffset => ?_, fun hbusy => ⟨?_, ?_, ?_⟩⟩
  · rw [hcmd, submitCommand_of_refusing v s h]
  · rw [hcmd, submitCommand_of_accepting v s hbusy herr]
    rfl
  · simp only [List.mem_cons, List.not_mem_nil, or_false] at hoffset
    rcases hoffset with rfl | rfl | rfl
    · rw [hwdata, writeOperand_of_busy _ _ hbusy]
    · rw [hs1, writeOperand_of_busy _ _ hbusy]
    · rw [hs2, writeOperand_of_busy _ _ hbusy]
  · rw [hwdata, writeOperand_of_idle _ _ hbusy]
  · rw [hs1, writeOperand_of_idle _ _ hbusy]
  · rw [hs2, writeOperand_of_idle _ _ hbusy]

theorem writeCtrl_of_srst (v : Word) (s : State) (h : v.getLsbD 0 = true) : writeCtrl v s = resetBlock s := by
  rw [writeCtrl, if_pos h]

theorem writeCtrl_of_clrerr (v : Word) (s : State) (h0 : v.getLsbD 0 = false) (h1 : v.getLsbD 1 = true) :
    writeCtrl v s = clearError s := by
  rw [writeCtrl, if_neg (Bool.eq_false_iff.mp h0), if_pos h1]

theorem writeCtrl_of_neither (v : Word) (s : State) (h0 : v.getLsbD 0 = false) (h1 : v.getLsbD 1 = false) :
    writeCtrl v s = s := by
  rw [writeCtrl, if_neg (Bool.eq_false_iff.mp h0), if_neg (Bool.eq_false_iff.mp h1)]

/-- Settles O55: SRST, CLRERR, neither, the hardware reset, and the register page read right after reset. -/
theorem ctrlActions : Obligations.CtrlActions := by
  unfold Obligations.CtrlActions
  refine ⟨fun s v => ?_, fun k hk => ?_⟩
  · have hctrl : handleEvent (.access (.write .word 0x004#15 v)) s = { writeCtrl v s with reply := .written } :=
      handleEvent_writeRegister .ctrl v s
    refine ⟨fun h => ?_, fun h0 h1 => ?_, fun h0 h1 => ?_, rfl⟩
    · rw [hctrl, writeCtrl_of_srst v s h]
      rfl
    · rw [hctrl, writeCtrl_of_clrerr v s h0 h1]
      rfl
    · rw [hctrl, writeCtrl_of_neither v s h0 h1]
  · rw [← registerOffset_of_index ⟨k, hk⟩, handleEvent_readRegister _ _ rfl, readRegister_reset]

/-- Settles O60: the order of the valid bits decides which branch of PSTATE is taken. -/
theorem pstateFollowsTheValidBits : Obligations.PstateFollowsTheValidBits := by
  unfold Obligations.PstateFollowsTheValidBits
  intro s hinv
  have hraw : s.fValid = false → s.rValid = false := by simpa using mt hinv.raw_needs_format
  have hformat : s.vValid = false → s.fValid = false := by simpa using mt hinv.format_needs_version
  have hversion : s.fValid = true → s.vValid = true := hinv.format_needs_version
  refine ⟨fun hv => ?_, fun hv hf => ?_, fun hf hr => ?_, fun hr => ?_, ?_⟩
  · simp [pstate, hv, hformat hv, hraw (hformat hv)]
  · simp [pstate, hv, hf, hraw hf]
  · simp [pstate, hf, hr]
  · simp [pstate, hr]
  · unfold pstate
    split_ifs <;> decide

/-- Each entry of a block layout fits its byte of the LAYOUT word (10_state.md R43, 42_rs_deinterleaver.md R172). -/
theorem layoutOf_entries_lt : ∀ v < 64, ∀ l,
    (layoutOf v l).ec < 256 ∧ (layoutOf v l).b1 < 256 ∧ (layoutOf v l).d1 < 256 ∧ (layoutOf v l).b2 < 256 := by
  have hlevels : ∀ v < 64, ∀ l ∈ levels,
      (layoutOf v l).ec < 256 ∧ (layoutOf v l).b1 < 256 ∧ (layoutOf v l).d1 < 256 ∧ (layoutOf v l).b2 < 256 := by
    decide +kernel
  exact fun v hv l => hlevels v hv l (levels_complete l)

/-- The bits of the STATUS word (10_state.md R25). -/
theorem statusWord_bits (s : State) :
    (statusWord s).getLsbD 0 = s.busy ∧ (statusWord s).getLsbD 1 = s.err ∧ (statusWord s).getLsbD 2 = s.overrun ∧
    (statusWord s).getLsbD 3 = s.vValid ∧ (statusWord s).getLsbD 4 = s.fValid ∧ (statusWord s).getLsbD 5 = s.rValid ∧
    (statusWord s).getLsbD 6 = s.mValid ∧ (statusWord s).getLsbD 7 = false ∧ (statusWord s).getLsbD 11 = false := by
  simp only [statusWord, BitVec.getLsbD_append]
  simp

/-- The fields of the STATUS word (10_state.md R25). -/
theorem statusWord_fields (s : State) :
    (statusWord s).extractLsb' 8 3 = pstate s ∧ (statusWord s).extractLsb' 12 2 = segStateBits s.sstate ∧
    (statusWord s).extractLsb' 14 2 = 0#2 ∧ (statusWord s).extractLsb' 24 8 = 0#8 ∧
    (statusWord s).extractLsb' 16 8 = errorByte s.errCode := by
  simp (disch := omega) only [statusWord, BitVec.extractLsb'_append_eq_of_le, BitVec.extractLsb'_append_eq_of_add_le,
    Nat.reduceSub, BitVec.extractLsb'_eq_self, BitVec.extractLsb'_zero, and_self]

/-- The fields of the CONFIG word (10_state.md R28). -/
theorem configWord_fields (s : State) :
    (configWord s).extractLsb' 0 6 = s.version ∧ (configWord s).extractLsb' 6 2 = 0#2 ∧
    (configWord s).extractLsb' 8 2 = s.ecl ∧ (configWord s).extractLsb' 10 2 = 0#2 ∧
    (configWord s).extractLsb' 12 3 = s.maskId ∧ (configWord s).getLsbD 15 = false ∧
    (configWord s).extractLsb' 16 8 = s.side ∧ (configWord s).extractLsb' 24 8 = 0#8 := by
  simp (disch := omega) only [configWord, BitVec.extractLsb'_append_eq_of_le, BitVec.extractLsb'_append_eq_of_add_le,
    Nat.reduceSub, BitVec.extractLsb'_eq_self, BitVec.extractLsb'_zero, BitVec.getLsbD_append]
  simp

/-- The fields of the LAYOUT word with a format configured (10_state.md R43). -/
theorem layoutWord_fields (s : State) (hformat : s.fValid = true) :
    ((layoutWord s).extractLsb' 0 8).toNat = (configuredLayout s).ec ∧
    ((layoutWord s).extractLsb' 8 8).toNat = (configuredLayout s).b1 ∧
    ((layoutWord s).extractLsb' 16 8).toNat = (configuredLayout s).d1 ∧
    ((layoutWord s).extractLsb' 24 8).toNat = (configuredLayout s).b2 := by
  obtain ⟨hec, hb1, hd1, hb2⟩ := layoutOf_entries_lt s.version.toNat s.version.isLt (levelOf s.ecl)
  rw [layoutWord, if_pos hformat]
  simp (disch := omega) only [BitVec.extractLsb'_append_eq_of_le, BitVec.extractLsb'_append_eq_of_add_le,
    Nat.reduceSub, BitVec.extractLsb'_eq_self, BitVec.toNat_ofNat]
  exact ⟨Nat.mod_eq_of_lt hec, Nat.mod_eq_of_lt hb1, Nat.mod_eq_of_lt hd1, Nat.mod_eq_of_lt hb2⟩

/-- The CAP_BITS register is wide enough for the capacity (10_state.md R42). -/
theorem readRegister_capBits (s : State) :
    readRegister .capBits s =
      BitVec.ofNat 32 (if s.vValid then 8 * totalCw s.version.toNat + remBits s.version.toNat else 0) := by
  have hfit : capBits s < 2 ^ 15 := by
    have hcap := capBitsOf_le s.version.toNat s.version.isLt
    simp only [Config.rawbufBits] at hcap
    unfold capBits
    split <;> omega
  apply BitVec.eq_of_toNat_eq
  change (zext32 (BitVec.ofNat 15 (capBits s))).toNat = (BitVec.ofNat 32 (capBits s)).toNat
  simp only [zext32, BitVec.toNat_setWidth, BitVec.toNat_ofNat]
  omega

/-- Settles O59: each read is the register's word at its offset, and the three composed words have their fields at their
places. -/
theorem statusConfigAndLayoutWords : Obligations.StatusConfigAndLayoutWords := by
  unfold Obligations.StatusConfigAndLayoutWords
  intro s hbusy
  have hread : ∀ r : Reg, handleEvent (.access (.read .word (registerOffset r))) s =
      { s with reply := .data (readRegister r s) } := fun r => handleEvent_readRegister r s hbusy
  refine ⟨?_, ?_, ⟨statusWord s, hread .status, ?_⟩, ⟨configWord s, hread .config, configWord_fields s⟩,
    ⟨layoutWord s, hread .layout, ?_, ?_⟩⟩
  · simp only [List.forall_mem_cons, List.not_mem_nil, false_imp_iff, implies_true, and_true]
    exact ⟨hread .id, hread .errinfo, hread .wdata, hread .rdata, hread .fmtS1, hread .fmtS2, hread .fmtResult,
      hread .rawLen, hread .rawPos, hread .msgLen, hread .msgPos, hread .rsNcorr, hread .segMode, hread .segCount,
      hread .outLen⟩
  · exact readRegister_capBits s ▸ hread .capBits
  · obtain ⟨hb0, hb1, hb2, hb3, hb4, hb5, hb6, hb7, hb11⟩ := statusWord_bits s
    obtain ⟨hpstate, hsegment, hgap, htop, herror⟩ := statusWord_fields s
    refine ⟨hb0.trans hbusy, hb1, hb2, hb3, hb4, hb5, hb6, hb7, hpstate, hb11, ?_, hgap, htop, ?_⟩
    · rw [hsegment]
      cases s.sstate <;> rfl
    · rw [herror]
      cases s.errCode <;> rfl
  · intro hformat
    simp [layoutWord, hformat]
  · rintro hformat lay rfl
    exact layoutWord_fields s hformat

end Sys2Proof.Machine
end

section
/-! SUPPORT. The step (20_memory.md R75): what an input and the latched command make of it; and the decoder on a
command's own word (30_encoding.md R91, R93). -/

namespace Sys2Proof.Machine

/-- The word of a well-formed command decodes to it: the opcode is the word's top byte, each operand stands at its
format's place, and the bits between are 0. -/
theorem decode_encode_of_wf (i : Instr) (hwf : i.wf = true) : decode (encode i) = .ok i := by
  cases i with
  | nop | fmtGather | fmtDecode1 | fmtDecode2 | zzTraverse | rawRewind | rawClear | rsCorrect | msgRewind | segMode
  | segCount | segPayload | segDecode | decodeAll => rfl
  | fmtCheck sel => cases sel <;> rfl
  | setVersion _ | setSide _ | setFormat _ | fmtEncode _ | maskEval _ _ _ | dzQuery _ _ =>
    simp (disch := omega) only [encode, decode, opcodeOf, formatV, formatS, formatF5, formatMX, formatXY, whenZero,
      BitVec.extractLsb'_append_eq_of_le, BitVec.extractLsb'_append_eq_of_add_le, Nat.reduceSub,
      BitVec.extractLsb'_eq_self, BitVec.extractLsb'_zero]
    rfl
  | rawRead n | rawAppend n | msgRead n =>
    have hcount : countLegal n = true := hwf
    simp (disch := omega) only [encode, decode, opcodeOf, formatW, hcount, BitVec.extractLsb'_append_eq_of_le,
      BitVec.extractLsb'_append_eq_of_add_le, Nat.reduceSub, BitVec.extractLsb'_eq_self, BitVec.extractLsb'_zero]
    rfl

/-- With no command in flight a step takes the next input. -/
theorem step_of_idle (s : State) (e : Event) (rest : List Event) (hbusy : s.busy = false) (hev : s.events = e :: rest) :
    step s = .next (handleEvent e { s with events := rest, lag := s.lag - 1 }) := by
  rw [step, if_neg (by simp [engineMoves, hbusy]), takeInput_cons s e rest hev]

/-- With a command in flight and its latency over, a step runs what the latch decodes to. -/
theorem step_of_latched (s : State) (i : Instr) (hbusy : s.busy = true) (hlag : s.lag = 0)
    (hdecode : decode s.cmdl = .ok i) : step s = exec i s := by
  rw [step, if_pos (by simp [engineMoves, hbusy, hlag]), runCommand, hdecode]

/-- The state an accepted CMD write of w leaves, the inputs rest still to come. -/
def acceptedWrite (w : Word) (rest : List Event) (s : State) : State :=
  { s with
    events := rest, cmdl := w, busy := true, drift := false, draws := s.draws + 1, lag := s.latencies.headD 0,
    latencies := s.latencies.tail, reply := .written }

/-- A CMD write that comes while no command is in flight and no error is recorded is accepted in one step. -/
theorem step_of_cmdWrite (w : Word) (rest : List Event) (s : State) (hbusy : s.busy = false) (herr : s.err = false)
    (hevents : s.events = .access (.write .word (registerOffset .cmd) w) :: rest) :
    step s = .next (acceptedWrite w rest s) := by
  rw [step_of_idle s _ rest hbusy hevents, handleEvent_cmdWrite,
    submitCommand_of_accepting w { s with events := rest, lag := s.lag - 1 } hbusy herr]
  rfl

theorem run_succ_of_next (k : Nat) (s t : State) (h : step s = .next t) : core.run (k + 1) s = core.run k t := by
  have hcore : core.step s = .next t := h
  simp only [Host.Core.run, hcore]

theorem run_one (s : State) : core.run 1 s = step s := by
  obtain ⟨t, ht⟩ := step_is_next s
  rw [run_succ_of_next 0 s t ht, ht]
  rfl

/-- Settles O7: the first step latches the word of the CMD write, the second one runs it. -/
theorem hostWriteRunsItsCommand : Obligations.HostWriteRunsItsCommand := by
  unfold Obligations.HostWriteRunsItsCommand
  intro s i rest hwf hbusy herr hlatency hevents
  have haccept : step s = .next (acceptedWrite (encode i) rest s) :=
    step_of_cmdWrite (encode i) rest s hbusy herr hevents
  have hrun : step (acceptedWrite (encode i) rest s) = exec i (acceptedWrite (encode i) rest s) :=
    step_of_latched _ i rfl hlatency (decode_encode_of_wf i hwf)
  rw [run_succ_of_next 1 s _ haccept, run_one, hrun, acceptedWrite, hlatency]

end Sys2Proof.Machine
end

section
/-! SUPPORT. What each command's body can do: fail and leave the state it started from, or end in one state its rule
gives (40_format_codec.md to 44_control.md). -/

namespace Sys2Proof.Machine

/-- The body raised an error and left the state it started from (60_exceptions.md R234). -/
def Result.RollsBack (r : Result) (s : State) : Prop := ∃ e, e.code ≠ .none ∧ r = .failed e s

theorem setVersionBody_cases (ver : BitVec 6) (s : State) :
    (setVersionBody ver s).RollsBack s ∨
    ((1 ≤ ver.toNat ∧ ver.toNat ≤ 40) ∧ setVersionBody ver s = .done (configureVersion ver.toNat s)) := by
  unfold setVersionBody
  split
  · exact Or.inl ⟨_, by simp [illegalVersion], rfl⟩
  · next hrange =>
    simp only [Config.versionMin, Config.versionMax] at hrange
    exact Or.inr ⟨by omega, rfl⟩

theorem setSideBody_cases (side : BitVec 8) (s : State) :
    (setSideBody side s).RollsBack s ∨
    ∃ v, (1 ≤ v ∧ v ≤ 40) ∧ setSideBody side s = .done (configureVersion v s) := by
  unfold setSideBody
  split
  · exact Or.inl ⟨_, by simp [illegalVersion], rfl⟩
  · exact Or.inr ⟨(side.toNat - 17) / 4, by omega, rfl⟩

theorem formatOutcome_cases (found : Except CmdError (BitVec 5 × Nat)) (s : State)
    (hcode : ∀ e, found = .error e → e.code = .formatCorrupt) :
    (formatOutcome found s).RollsBack s ∨ ∃ d m, formatOutcome found s = .done (recordFormat d m s) := by
  cases found with
  | ok dm => exact Or.inr ⟨dm.1, dm.2, rfl⟩
  | error e => exact Or.inl ⟨e, by simp [hcode e rfl], rfl⟩

theorem fmtDecode1Body_cases (s : State) :
    (fmtDecode1Body s).RollsBack s ∨ ∃ d m, fmtDecode1Body s = .done (recordFormat d m s) := by
  refine formatOutcome_cases _ s fun e he => ?_
  unfold recover1 at he
  split at he
  · cases he
  · exact nearest_error _ _ e he

theorem fmtDecode2Body_cases (s : State) :
    (fmtDecode2Body s).RollsBack s ∨ ∃ d m, fmtDecode2Body s = .done (recordFormat d m s) := by
  refine formatOutcome_cases _ s fun e he => ?_
  unfold recover2 at he
  split at he
  · cases he
  · exact nearest_error _ _ e he

theorem dzQueryBody_cases (x y : BitVec 8) (s : State) :
    (dzQueryBody x y s).RollsBack s ∨ ∃ w, dzQueryBody x y s = .done { s with rdata := w } := by
  unfold dzQueryBody
  split
  · exact Or.inl ⟨_, by simp [illegalCommand], rfl⟩
  · exact Or.inr ⟨_, rfl⟩

/-- RAWBUF with the low n bits of WDATA stored from entry RAW_LEN on, and the longer raw stream. -/
def appendRaw (n : BitVec 6) (s : State) : State :=
  { s with
    rawBuf := bufStore s.rawBuf s.rawLen.toNat (wdataBits s n.toNat)
    rawLen := BitVec.ofNat 15 (s.rawLen.toNat + n.toNat) }

theorem rawAppendBody_cases (n : BitVec 6) (s : State) :
    (rawAppendBody n s).RollsBack s ∨
    (s.rawLen.toNat + n.toNat ≤ Config.rawbufBits ∧ rawAppendBody n s = .done (clearMsg (appendRaw n s))) := by
  unfold rawAppendBody
  split
  · exact Or.inl ⟨_, by simp, rfl⟩
  · exact Or.inr ⟨by omega, rfl⟩

theorem rawReadBody_cases (n : BitVec 6) (s : State) :
    (rawReadBody n s).RollsBack s ∨
    (s.rawPos.toNat + n.toNat ≤ s.rawLen.toNat ∧ ∃ w, rawReadBody n s =
      .done { s with rdata := w, rawPos := BitVec.ofNat 15 (s.rawPos.toNat + n.toNat) }) := by
  unfold rawReadBody
  split
  · exact Or.inl ⟨_, by simp [endOfData], rfl⟩
  · exact Or.inr ⟨by omega, _, rfl⟩

theorem rsCorrectBody_cases (s : State) :
    (rsCorrectBody s).RollsBack s ∨
    ∃ message corrections, rsCorrectBody s = .done (storeMessage message corrections s) := by
  unfold rsCorrectBody
  split
  · exact Or.inl ⟨_, by simp, rfl⟩
  · split
    · exact Or.inl ⟨_, by simp, rfl⟩
    · split
      · exact Or.inl ⟨_, by simp, rfl⟩
      · exact Or.inr ⟨_, _, rfl⟩

theorem msgReadBody_cases (n : BitVec 6) (s : State) :
    (msgReadBody n s).RollsBack s ∨
    (s.msgPos.toNat + n.toNat ≤ messageLimit s ∧ ∃ w, msgReadBody n s =
      .done { s with rdata := w, msgPos := BitVec.ofNat 15 (s.msgPos.toNat + n.toNat) }) := by
  unfold msgReadBody
  split
  · exact Or.inl ⟨_, by simp [endOfData], rfl⟩
  · exact Or.inr ⟨by omega, _, rfl⟩

theorem segModeBody_cases (s : State) :
    (segModeBody s).RollsBack s ∨
    (s.msgPos.toNat + 4 ≤ messageLimit s ∧ ∃ m, modeAccepted m = true ∧ segModeBody s =
      .done { s with msgPos := BitVec.ofNat 15 (s.msgPos.toNat + 4), segMode := m, sstate := .modeRead }) := by
  unfold segModeBody acceptMode
  split
  · exact Or.inl ⟨_, by simp [endOfData], rfl⟩
  · split
    · exact Or.inl ⟨_, by simp, rfl⟩
    · split
      · next hmode => exact Or.inr ⟨by omega, _, hmode, rfl⟩
      · exact Or.inl ⟨_, by simp, rfl⟩

theorem segCountBody_cases (s : State) :
    (segCountBody s).RollsBack s ∨
    (s.msgPos.toNat + countWidth s ≤ messageLimit s ∧ ∃ c, segCountBody s =
      .done { s with
        segCount := c, msgPos := BitVec.ofNat 15 (s.msgPos.toNat + countWidth s), sstate := .countRead }) := by
  unfold segCountBody
  split
  · exact Or.inl ⟨_, by simp [endOfData], rfl⟩
  · exact Or.inr ⟨by omega, _, rfl⟩

theorem takeGroup_error_code (s : State) (g : Group) (pos : Nat) (e : CmdError) (h : takeGroup s g pos = .error e) :
    e.code ≠ .none := by
  rcases takeGroup_error s g pos e h with rfl | rfl
  · simp [endOfData]
  · simp [illegalValue]

theorem takeThen_error_code (s : State) (g : Group) (k : Nat) (last : Option Group) (pos : Nat) (e : CmdError)
    (h : takeThen s g k last pos = .error e) : e.code ≠ .none := by
  unfold takeThen at h
  split at h
  · next e' hgroups =>
    cases h
    obtain ⟨j, _, hj⟩ := takeGroups_error s g k pos e hgroups
    exact takeGroup_error_code s g _ e hj
  · split at h
    · cases h
    · next last =>
      split at h
      · next e' hlast =>
        cases h
        exact takeGroup_error_code s last _ e hlast
      · cases h

theorem payload_error_code (s : State) (mode : BitVec 4) (c pos : Nat) (e : CmdError)
    (h : payload s mode c pos = .error e) : e.code ≠ .none := by
  unfold payload at h
  split_ifs at h
  all_goals exact takeThen_error_code s _ _ _ _ e h

theorem segPayloadBody_cases (s : State) :
    (segPayloadBody s).RollsBack (dropPayload s) ∨
    ∃ entries pos, payload s s.segMode s.segCount.toNat s.msgPos.toNat = .ok (entries, pos) ∧
      segPayloadBody s = .done (storePayload entries pos s) := by
  unfold segPayloadBody
  split
  · next e he => exact Or.inl ⟨e, payload_error_code _ _ _ _ e he, rfl⟩
  · next entries pos hok => exact Or.inr ⟨entries, pos, hok, rfl⟩

/-- SEG_DECODE fails in one of its three bodies, or ends where the third one ends. -/
theorem segDecodeBody_cases (s : State) :
    (segDecodeBody s).RollsBack s ∨ (segDecodeBody s).RollsBack (dropPayload s) ∨
    ∃ s1 s2 s3, segModeBody s = .done s1 ∧ segCountBody s1 = .done s2 ∧ segPayloadBody s2 = .done s3 ∧
      segDecodeBody s = .done s3 := by
  have hmode : (segModeBody s).RollsBack s ∨ ∃ s1, segModeBody s = .done s1 :=
    (segModeBody_cases s).imp_right fun ⟨_, _, _, h⟩ => ⟨_, h⟩
  have hcount : ∀ s1, (segCountBody s1).RollsBack s1 ∨ ∃ s2, segCountBody s1 = .done s2 :=
    fun s1 => (segCountBody_cases s1).imp_right fun ⟨_, _, h⟩ => ⟨_, h⟩
  unfold segDecodeBody
  rcases hmode with ⟨e, he, h1⟩ | ⟨s1, h1⟩
  · exact Or.inl ⟨e, he, by rw [h1]⟩
  · rcases hcount s1 with ⟨e, he, h2⟩ | ⟨s2, h2⟩
    · exact Or.inl ⟨e, he, by simp only [h1, h2]⟩
    · rcases segPayloadBody_cases s2 with ⟨e, he, h3⟩ | ⟨_, _, _, h3⟩
      · exact Or.inr (Or.inl ⟨e, he, by simp only [h1, h2, h3]⟩)
      · exact Or.inr (Or.inr ⟨s1, s2, _, h1, h2, h3, by simp only [h1, h2, h3]⟩)

end Sys2Proof.Machine
end

section
/-! SUPPORT. The invariant in layers: each speaks of its own registers, so a command that writes none of them keeps it
as it stands, and a clearing procedure of 10_state.md R49 restores the layers it clears from those below. -/

namespace Sys2Proof.Machine

/-- What the invariant says of V_VALID, F_VALID and CONFIG (10_state.md R25, R28). -/
structure ConfigLayer (vValid fValid : Bool) (version : BitVec 6) (side : BitVec 8) (ecl : BitVec 2)
    (maskId : BitVec 3) : Prop where
  format_needs_version : fValid = true → vValid = true
  version_range : vValid = true → 1 ≤ version.toNat ∧ version.toNat ≤ 40
  side_of_version : vValid = true → side.toNat = 17 + 4 * version.toNat
  no_version : vValid = false → version = 0#6 ∧ side = 0#8
  no_format : fValid = false → ecl = 0#2 ∧ maskId = 0#3

/-- What the invariant says of R_VALID, RAW_LEN and RAW_POS (10_state.md R34, R35). -/
structure RawLayer (fValid rValid : Bool) (rawLen rawPos : BitVec 15) : Prop where
  raw_needs_format : rValid = true → fValid = true
  raw_bound : rawLen.toNat ≤ Config.rawbufBits
  raw_cursor : rawPos.toNat ≤ rawLen.toNat
  no_raw : rValid = false → rawLen = 0#15 ∧ rawPos = 0#15

/-- What the invariant says of M_VALID, MSG_LEN, MSG_POS and RS_NCORR, for a layout of dataLen codewords
(10_state.md R36, R37; 42_rs_deinterleaver.md R177 e). -/
structure MessageLayer (rValid mValid : Bool) (dataLen : Nat) (msgLen : BitVec 12) (msgPos : BitVec 15)
    (rsNcorr : BitVec 16) : Prop where
  message_needs_raw : mValid = true → rValid = true
  message_length : mValid = true → msgLen.toNat = dataLen
  message_bound : msgLen.toNat ≤ Config.msgbufBytes
  message_cursor : msgPos.toNat ≤ 8 * msgLen.toNat
  no_message : mValid = false → msgLen = 0#12 ∧ msgPos = 0#15 ∧ rsNcorr = 0#16

/-- What the invariant says of SSTATE, SEG_MODE, SEG_COUNT and OUT_LEN (10_state.md R39-R41). -/
structure SegmentLayer (mValid : Bool) (sstate : SegState) (segMode : BitVec 4) (segCount : BitVec 16)
    (outLen : BitVec 14) : Prop where
  segment_needs_message : sstate ≠ .idle → mValid = true
  no_segment : mValid = false → segMode = 0#4 ∧ segCount = 0#16 ∧ outLen = 0#14
  mode_accepted : sstate ≠ .idle → modeAccepted segMode = true
  output_bound : outLen.toNat ≤ Config.outbufEntries

/-- What the invariant says of the error record (10_state.md R25, R27; 60_exceptions.md R230, R239). -/
structure ErrorLayer (busy err : Bool) (errCode : ErrorCode) (errInfo : Word) : Prop where
  no_error : err = false → errCode = .none ∧ errInfo = 0#32
  some_error : err = true → errCode ≠ .none
  no_error_in_flight : busy = true → err = false

/-- The three buffers have their canonical form. -/
structure BufferLayer (rawBuf : Buf Bool) (msgBuf : List Host.Cell) (outBuf : Buf (BitVec 16)) : Prop where
  raw : bufWf rawBuf = true
  message : bufWf msgBuf = true
  output : bufWf outBuf = true

def ConfigOk (s : State) : Prop := ConfigLayer s.vValid s.fValid s.version s.side s.ecl s.maskId
def RawOk (s : State) : Prop := RawLayer s.fValid s.rValid s.rawLen s.rawPos
def MessageOk (s : State) : Prop :=
  MessageLayer s.rValid s.mValid (dataCw (configuredLayout s)) s.msgLen s.msgPos s.rsNcorr
def SegmentOk (s : State) : Prop := SegmentLayer s.mValid s.sstate s.segMode s.segCount s.outLen
def ErrorOk (s : State) : Prop := ErrorLayer s.busy s.err s.errCode s.errInfo
def BuffersOk (s : State) : Prop := BufferLayer s.rawBuf s.msgBuf s.outBuf

/-- All layers. -/
structure Layers (s : State) : Prop where
  config : ConfigOk s
  raw : RawOk s
  message : MessageOk s
  segment : SegmentOk s
  error : ErrorOk s
  buffers : BuffersOk s

/-- The layers are the invariant. -/
theorem inv_iff_layers (s : State) : Inv s ↔ Layers s := by
  constructor
  · intro h
    have hwf := h.memory
    simp only [Memory.wf, Bool.and_eq_true] at hwf
    exact {
      config := ⟨h.format_needs_version, h.version_range, h.side_of_version, h.no_version, h.no_format⟩
      raw := ⟨h.raw_needs_format, h.raw_bound, h.raw_cursor, h.no_raw⟩
      message := ⟨h.message_needs_raw, h.message_length, h.message_bound, h.message_cursor, h.no_message⟩
      segment := ⟨h.segment_needs_message, h.no_segment, h.mode_accepted, h.output_bound⟩
      error := ⟨h.no_error, h.some_error, h.no_error_in_flight⟩
      buffers := ⟨hwf.1.1, hwf.1.2, hwf.2⟩ }
  · rintro ⟨hconfig, hraw, hmessage, hsegment, herror, hbuffers⟩
    exact {
      message_needs_raw := hmessage.message_needs_raw
      raw_needs_format := hraw.raw_needs_format
      format_needs_version := hconfig.format_needs_version
      segment_needs_message := hsegment.segment_needs_message
      version_range := hconfig.version_range
      side_of_version := hconfig.side_of_version
      no_version := hconfig.no_version
      no_format := hconfig.no_format
      no_error := herror.no_error
      some_error := herror.some_error
      no_error_in_flight := herror.no_error_in_flight
      raw_bound := hraw.raw_bound
      raw_cursor := hraw.raw_cursor
      no_raw := hraw.no_raw
      message_length := hmessage.message_length
      message_bound := hmessage.message_bound
      message_cursor := hmessage.message_cursor
      no_message := hmessage.no_message
      no_segment := hsegment.no_segment
      mode_accepted := hsegment.mode_accepted
      output_bound := hsegment.output_bound
      memory := by simp [Memory.wf, hbuffers.raw, hbuffers.message, hbuffers.output] }

/-! The cleared layers. -/

theorem RawLayer.cleared (fValid : Bool) : RawLayer fValid false 0#15 0#15 :=
  ⟨by simp, by simp, by simp, by simp⟩

theorem MessageLayer.cleared (rValid : Bool) (dataLen : Nat) :
    MessageLayer rValid false dataLen 0#12 0#15 0#16 :=
  ⟨by simp, by simp, by simp, by simp, by simp⟩

theorem SegmentLayer.cleared (mValid : Bool) : SegmentLayer mValid .idle 0#4 0#16 0#14 :=
  ⟨by simp, by simp, by simp, by simp⟩

/-- clear_msg needs the layers below the message only. -/
theorem clearMsg_layers (s : State) (hconfig : ConfigOk s) (hraw : RawOk s) (herror : ErrorOk s)
    (hbuffers : BuffersOk s) : Layers (clearMsg s) :=
  ⟨hconfig, hraw, .cleared _ _, .cleared _, herror, hbuffers⟩

theorem applyFormat_layers (d : BitVec 5) (s : State) (h : Layers s) (hversion : s.vValid = true) :
    Layers (applyFormat d s) where
  config := ⟨fun _ => hversion, h.config.version_range, h.config.side_of_version, h.config.no_version, by simp⟩
  raw := .cleared _
  message := .cleared _ _
  segment := .cleared _
  error := h.error
  buffers := h.buffers

theorem configureVersion_layers (v : Nat) (s : State) (h : Layers s) (hv : 1 ≤ v ∧ v ≤ 40) :
    Layers (configureVersion v s) where
  config := by
    have hversion : (BitVec.ofNat 6 v).toNat = v := Nat.mod_eq_of_lt (by omega)
    have hside : (BitVec.ofNat 8 (sideOf v)).toNat = 17 + 4 * v := Nat.mod_eq_of_lt (by simp only [sideOf]; omega)
    exact ⟨by simp, fun _ => by simp only [configureVersion_version, hversion]; exact hv,
      fun _ => by simp only [configureVersion_version, configureVersion_side, hversion, hside], by simp, by simp⟩
  raw := .cleared _
  message := .cleared _ _
  segment := .cleared _
  error := h.error
  buffers := h.buffers

theorem recordFormat_layers (d : BitVec 5) (m : Nat) (s : State) (h : Layers s) : Layers (recordFormat d m s) := by
  have hresult : Layers { s with fmtResult := decodeWord d m } :=
    ⟨h.config, h.raw, h.message, h.segment, h.error, h.buffers⟩
  unfold recordFormat
  split
  · next hversion => exact applyFormat_layers d _ hresult hversion
  · exact hresult

/-- The state right after reset. -/
theorem reset_layers : Layers State.reset where
  config := ⟨by decide, by decide, by decide, by decide, by decide⟩
  raw := .cleared _
  message := .cleared _ _
  segment := .cleared _
  error := ⟨by decide, by decide, by decide⟩
  buffers := ⟨rfl, rfl, rfl⟩

/-! The bodies. -/

/-- The body ends in a state that meets the invariant, and what it raises is an error. -/
def Result.Sound : Result → Prop
  | .done s => Layers s
  | .failed e s => Layers s ∧ e.code ≠ .none

theorem Result.RollsBack.sound {r : Result} {s : State} (h : r.RollsBack s) (hs : Layers s) : r.Sound := by
  obtain ⟨e, he, rfl⟩ := h
  exact ⟨hs, he⟩

theorem require_sound (ready : Bool) (s : State) (body : Result) (h : Layers s) (hbody : ready = true → body.Sound) :
    (require ready s body).Sound := by
  rcases require_cases ready s body with ⟨hready, heq⟩ | ⟨_, heq⟩ <;> rw [heq]
  · exact hbody hready
  · exact ⟨h, by simp⟩

theorem checkCount_sound (n : BitVec 6) (s : State) (body : Result) (h : Layers s) (hbody : body.Sound) :
    (checkCount n s body).Sound := by
  rcases checkCount_cases n s body with ⟨_, heq⟩ | ⟨_, heq⟩ <;> rw [heq]
  · exact hbody
  · exact ⟨h, by simp⟩

theorem finish_layers (r : Result) (t : State) (h : r.Sound) (hnext : finish r = .next t) : Layers t := by
  rcases (finish_next_iff r t).mp hnext with ⟨s, rfl, rfl⟩ | ⟨e, s, rfl, rfl⟩
  · exact ⟨h.config, h.raw, h.message, h.segment, ⟨h.error.no_error, h.error.some_error, by simp⟩, h.buffers⟩
  · obtain ⟨hs, hcode⟩ := h
    exact ⟨hs.config, hs.raw, hs.message, hs.segment, ⟨by simp, fun _ => hcode, by simp⟩, hs.buffers⟩

theorem setVersionBody_sound (ver : BitVec 6) (s : State) (h : Layers s) : (setVersionBody ver s).Sound := by
  rcases setVersionBody_cases ver s with hback | ⟨hv, hdone⟩
  · exact hback.sound h
  · rw [hdone]
    exact configureVersion_layers _ s h hv

theorem setSideBody_sound (side : BitVec 8) (s : State) (h : Layers s) : (setSideBody side s).Sound := by
  rcases setSideBody_cases side s with hback | ⟨v, hv, hdone⟩
  · exact hback.sound h
  · rw [hdone]
    exact configureVersion_layers v s h hv

theorem fmtDecode1Body_sound (s : State) (h : Layers s) : (fmtDecode1Body s).Sound := by
  rcases fmtDecode1Body_cases s with hback | ⟨d, m, hdone⟩
  · exact hback.sound h
  · rw [hdone]
    exact recordFormat_layers d m s h

theorem fmtDecode2Body_sound (s : State) (h : Layers s) : (fmtDecode2Body s).Sound := by
  rcases fmtDecode2Body_cases s with hback | ⟨d, m, hdone⟩
  · exact hback.sound h
  · rw [hdone]
    exact recordFormat_layers d m s h

theorem dzQueryBody_sound (x y : BitVec 8) (s : State) (h : Layers s) : (dzQueryBody x y s).Sound := by
  rcases dzQueryBody_cases x y s with hback | ⟨w, hdone⟩
  · exact hback.sound h
  · rw [hdone]
    exact ⟨h.config, h.raw, h.message, h.segment, h.error, h.buffers⟩

/-- A traversal fills RAWBUF up to the capacity of the configured version, which is within RAWBUF_BITS. -/
theorem zzTraverseBody_sound (s : State) (h : Layers s) (hformat : s.fValid = true) : (zzTraverseBody s).Sound := by
  have hversion := h.config.version_range (h.config.format_needs_version hformat)
  have hlength : (order s.version.toNat).length ≤ Config.rawbufBits := by
    rw [order_length _ hversion.1 hversion.2]
    exact capBitsOf_le _ s.version.isLt
  exact clearMsg_layers _ h.config
    ⟨fun _ => hformat, (Nat.mod_le _ _).trans hlength, by simp, by simp⟩ h.error
    ⟨bufWf_bufStore _ _ _ h.buffers.raw, h.buffers.message, h.buffers.output⟩

theorem rawClearBody_sound (s : State) (h : Layers s) (hformat : s.fValid = true) : (rawClearBody s).Sound :=
  clearMsg_layers _ h.config ⟨fun _ => hformat, by simp, by simp, by simp⟩ h.error h.buffers

theorem rawAppendBody_sound (n : BitVec 6) (s : State) (h : Layers s) (hraw : s.rValid = true) :
    (rawAppendBody n s).Sound := by
  rcases rawAppendBody_cases n s with hback | ⟨hfit, hdone⟩
  · exact hback.sound h
  · have hlen : (BitVec.ofNat 15 (s.rawLen.toNat + n.toNat)).toNat = s.rawLen.toNat + n.toNat := by
      refine Nat.mod_eq_of_lt ?_
      simp only [Config.rawbufBits] at hfit
      omega
    have hcursor := h.raw.raw_cursor
    rw [hdone]
    refine clearMsg_layers _ h.config ⟨h.raw.raw_needs_format, ?_, ?_, ?_⟩ h.error
      ⟨bufWf_bufStore _ _ _ h.buffers.raw, h.buffers.message, h.buffers.output⟩
    · exact hlen.trans_le hfit
    · exact (Nat.le_add_right_of_le hcursor).trans_eq hlen.symm
    · simp [appendRaw, hraw]

theorem rawReadBody_sound (n : BitVec 6) (s : State) (h : Layers s) (hraw : s.rValid = true) :
    (rawReadBody n s).Sound := by
  rcases rawReadBody_cases n s with hback | ⟨hfit, w, hdone⟩
  · exact hback.sound h
  · rw [hdone]
    exact ⟨h.config, ⟨h.raw.raw_needs_format, h.raw.raw_bound, (Nat.mod_le _ _).trans hfit, by simp [hraw]⟩, h.message,
      h.segment, h.error, h.buffers⟩

theorem rawRewindBody_sound (s : State) (h : Layers s) : (rawRewindBody s).Sound :=
  ⟨h.config, ⟨h.raw.raw_needs_format, h.raw.raw_bound, by simp, fun hr => ⟨(h.raw.no_raw hr).1, rfl⟩⟩, h.message,
    h.segment, h.error, h.buffers⟩

/-- No layout has more data codewords than MSGBUF has bytes (00_scope.md R9, 42_rs_deinterleaver.md R172). -/
theorem dataCw_le : ∀ v < 64, ∀ l, dataCw (layoutOf v l) ≤ Config.msgbufBytes := by
  have hlevels : ∀ v < 64, ∀ l ∈ levels, dataCw (layoutOf v l) ≤ Config.msgbufBytes := by decide +kernel
  exact fun v hv l => hlevels v hv l (levels_complete l)

theorem rsCorrectBody_sound (s : State) (h : Layers s) (hraw : s.rValid = true) : (rsCorrectBody s).Sound := by
  rcases rsCorrectBody_cases s with hback | ⟨message, corrections, hdone⟩
  · exact hback.sound h
  · have hbound : dataCw (configuredLayout s) ≤ Config.msgbufBytes := dataCw_le _ s.version.isLt _
    have hlen : (BitVec.ofNat 12 (dataCw (configuredLayout s))).toNat = dataCw (configuredLayout s) := by
      refine Nat.mod_eq_of_lt ?_
      simp only [Config.msgbufBytes] at hbound
      omega
    rw [hdone]
    exact ⟨h.config, h.raw, ⟨fun _ => hraw, fun _ => hlen, hlen.trans_le hbound, by simp [storeMessage],
      by simp [storeMessage]⟩, .cleared _, h.error,
      ⟨h.buffers.raw, bufWf_bufStore _ _ _ h.buffers.message, h.buffers.output⟩⟩

/-- A cursor move within the message keeps the message layer. -/
theorem MessageLayer.move {rValid mValid : Bool} {dataLen : Nat} {msgLen : BitVec 12} {msgPos : BitVec 15}
    {rsNcorr : BitVec 16} (h : MessageLayer rValid mValid dataLen msgLen msgPos rsNcorr) (hvalid : mValid = true)
    (pos : Nat) (hpos : pos ≤ 8 * msgLen.toNat) :
    MessageLayer rValid mValid dataLen msgLen (BitVec.ofNat 15 pos) rsNcorr :=
  ⟨h.message_needs_raw, h.message_length, h.message_bound, (Nat.mod_le _ _).trans hpos, by simp [hvalid]⟩

theorem msgReadBody_sound (n : BitVec 6) (s : State) (h : Layers s) (hmessage : s.mValid = true) :
    (msgReadBody n s).Sound := by
  rcases msgReadBody_cases n s with hback | ⟨hfit, w, hdone⟩
  · exact hback.sound h
  · rw [hdone]
    exact ⟨h.config, h.raw, h.message.move hmessage _ hfit, h.segment, h.error, h.buffers⟩

theorem msgRewindBody_sound (s : State) (h : Layers s) (hmessage : s.mValid = true) : (msgRewindBody s).Sound :=
  ⟨h.config, h.raw, h.message.move hmessage 0 (Nat.zero_le _), .cleared _, h.error, h.buffers⟩

theorem segModeBody_sound (s : State) (h : Layers s) (hmessage : s.mValid = true) : (segModeBody s).Sound := by
  rcases segModeBody_cases s with hback | ⟨hfit, m, hmode, hdone⟩
  · exact hback.sound h
  · rw [hdone]
    exact ⟨h.config, h.raw, h.message.move hmessage _ hfit,
      ⟨fun _ => hmessage, by simp [hmessage], fun _ => hmode, h.segment.output_bound⟩, h.error, h.buffers⟩

theorem segCountBody_sound (s : State) (h : Layers s) (hsegment : s.sstate ≠ .idle) : (segCountBody s).Sound := by
  have hmessage := h.segment.segment_needs_message hsegment
  rcases segCountBody_cases s with hback | ⟨hfit, c, hdone⟩
  · exact hback.sound h
  · rw [hdone]
    exact ⟨h.config, h.raw, h.message.move hmessage _ hfit,
      ⟨fun _ => hmessage, by simp [hmessage], fun _ => h.segment.mode_accepted hsegment, h.segment.output_bound⟩,
      h.error, h.buffers⟩

end Sys2Proof.Machine
end

section
/-! SUPPORT. How far a payload reaches and how many entries it makes, and the bodies that unpack one
(43_segment_decoder.md R197-R204). -/

namespace Sys2Proof.Machine

theorem threeDigits_length (v : Nat) (entries : List Entry) (h : threeDigits.emits v = some entries) :
    entries.length = 3 := by
  simp only [threeDigits] at h
  split at h <;> cases h
  rfl

theorem twoDigits_length (v : Nat) (entries : List Entry) (h : twoDigits.emits v = some entries) :
    entries.length = 2 := by
  simp only [twoDigits] at h
  split at h <;> cases h
  rfl

theorem oneDigit_length (v : Nat) (entries : List Entry) (h : oneDigit.emits v = some entries) :
    entries.length = 1 := by
  simp only [oneDigit] at h
  split at h <;> cases h
  rfl

theorem alnumPair_length (v : Nat) (entries : List Entry) (h : alnumPair.emits v = some entries) :
    entries.length = 2 := by
  simp only [alnumPair] at h
  split at h <;> cases h
  rfl

theorem alnumSingle_length (v : Nat) (entries : List Entry) (h : alnumSingle.emits v = some entries) :
    entries.length = 1 := by
  simp only [alnumSingle] at h
  split at h <;> cases h
  rfl

theorem rawByteGroup_length (v : Nat) (entries : List Entry) (h : rawByteGroup.emits v = some entries) :
    entries.length = 1 := by
  cases h
  rfl

theorem kanjiGroup_length (v : Nat) (entries : List Entry) (h : kanjiGroup.emits v = some entries) :
    entries.length = 1 := by
  cases h
  rfl

theorem numericLast_length (c : Nat) (g : Group) (hg : numericLast c = some g) (v : Nat) (entries : List Entry)
    (h : g.emits v = some entries) : entries.length ≤ 2 := by
  unfold numericLast at hg
  split_ifs at hg <;> cases hg
  · exact (twoDigits_length v entries h).le
  · exact (oneDigit_length v entries h).trans_le (by omega)

theorem alnumLast_length (c : Nat) (g : Group) (hg : alnumLast c = some g) (v : Nat) (entries : List Entry)
    (h : g.emits v = some entries) : entries.length ≤ 2 := by
  unfold alnumLast at hg
  split_ifs at hg
  cases hg
  exact (alnumSingle_length v entries h).trans_le (by omega)

/-- Groups of c entries each, then at most one of at most two: they end within the message, and the message's length
bounds the entries. -/
theorem takeThen_bounds (s : State) (g : Group) (c k : Nat) (last : Option Group) (pos pos' : Nat)
    (entries : List Entry) (hc : ∀ v es, g.emits v = some es → es.length = c)
    (hlast : ∀ h, last = some h → ∀ v es, h.emits v = some es → es.length ≤ 2) (hpos : pos ≤ messageLimit s)
    (hok : takeThen s g k last pos = .ok (entries, pos')) :
    pos' ≤ messageLimit s ∧ entries.length ≤ k * c + 2 ∧ k * g.width ≤ messageLimit s := by
  obtain ⟨first, hfirst, hend⟩ := takeThen_ok s g k last pos pos' entries hok
  have hlength := takeGroups_length s g c hc k pos first hfirst
  have hfit : pos + k * g.width ≤ messageLimit s := by
    rcases takeGroups_ok s g k pos first hfirst with ⟨rfl, _⟩ | hfit
    · simpa using hpos
    · exact hfit
  rcases hend with ⟨_, rfl, rfl⟩ | ⟨final, h, hsome, hfinal, rfl, rfl⟩
  · exact ⟨hfit, by omega, by omega⟩
  · obtain ⟨hfit', hemits⟩ := takeGroup_ok s h _ final hfinal
    have hshort := hlast h hsome _ final hemits
    exact ⟨hfit', by rw [List.length_append]; omega, by omega⟩

/-- A payload ends within the message, and OUTBUF holds what it makes: the densest group puts three entries in 10 bits
(00_scope.md R9, 10_state.md R41). -/
theorem payload_bounds (s : State) (mode : BitVec 4) (c pos pos' : Nat) (entries : List Entry)
    (hlen : s.msgLen.toNat ≤ Config.msgbufBytes) (hpos : pos ≤ messageLimit s)
    (hok : payload s mode c pos = .ok (entries, pos')) :
    pos' ≤ messageLimit s ∧ entries.length ≤ Config.outbufEntries := by
  have hlimit : messageLimit s ≤ 8 * Config.msgbufBytes := Nat.mul_le_mul_left 8 hlen
  have hnone : ∀ h : Group, (none : Option Group) = some h → ∀ v es, h.emits v = some es → es.length ≤ 2 := by simp
  simp only [Config.msgbufBytes, Config.outbufEntries] at hlimit ⊢
  unfold payload at hok
  split_ifs at hok
  · obtain ⟨hend, hcount, hfit⟩ :=
      takeThen_bounds s _ 3 _ _ pos pos' entries threeDigits_length (numericLast_length c) hpos hok
    simp only [threeDigits] at hfit
    exact ⟨hend, by omega⟩
  · obtain ⟨hend, hcount, hfit⟩ :=
      takeThen_bounds s _ 2 _ _ pos pos' entries alnumPair_length (alnumLast_length c) hpos hok
    simp only [alnumPair] at hfit
    exact ⟨hend, by omega⟩
  · obtain ⟨hend, hcount, hfit⟩ := takeThen_bounds s _ 1 _ _ pos pos' entries rawByteGroup_length hnone hpos hok
    simp only [rawByteGroup] at hfit
    exact ⟨hend, by omega⟩
  · obtain ⟨hend, hcount, hfit⟩ := takeThen_bounds s _ 1 _ _ pos pos' entries kanjiGroup_length hnone hpos hok
    simp only [kanjiGroup] at hfit
    exact ⟨hend, by omega⟩
  · cases hok
    exact ⟨hpos, by simp⟩

theorem dropPayload_layers (s : State) (h : Layers s) : Layers (dropPayload s) :=
  ⟨h.config, h.raw, h.message,
    ⟨h.segment.segment_needs_message, fun hm => ⟨(h.segment.no_segment hm).1, (h.segment.no_segment hm).2.1, rfl⟩,
      h.segment.mode_accepted, by simp⟩, h.error, h.buffers⟩

theorem segPayloadBody_sound (s : State) (h : Layers s) (hsegment : s.sstate ≠ .idle) : (segPayloadBody s).Sound := by
  have hmessage := h.segment.segment_needs_message hsegment
  rcases segPayloadBody_cases s with hback | ⟨entries, pos, hok, hdone⟩
  · exact hback.sound (dropPayload_layers s h)
  · obtain ⟨hend, hcount⟩ :=
      payload_bounds s _ _ _ pos entries h.message.message_bound h.message.message_cursor hok
    rw [hdone]
    exact ⟨h.config, h.raw, h.message.move hmessage pos hend,
      ⟨by simp [storePayload], by simp [storePayload, hmessage], by simp [storePayload],
        (Nat.mod_le _ _).trans hcount⟩,
      h.error, ⟨h.buffers.raw, h.buffers.message, bufWf_bufStore _ _ _ h.buffers.output⟩⟩

theorem Result.Sound.of_done {r : Result} {s : State} (h : r.Sound) (hdone : r = .done s) : Layers s := by
  subst hdone
  exact h

theorem segModeBody_done_sstate (s t : State) (h : segModeBody s = .done t) : t.sstate = .modeRead := by
  rcases segModeBody_cases s with ⟨e, _, hfail⟩ | ⟨_, m, _, hdone⟩
  · rw [hfail] at h
    cases h
  · rw [hdone] at h
    cases h
    rfl

theorem segCountBody_done_sstate (s t : State) (h : segCountBody s = .done t) : t.sstate = .countRead := by
  rcases segCountBody_cases s with ⟨e, _, hfail⟩ | ⟨_, c, hdone⟩
  · rw [hfail] at h
    cases h
  · rw [hdone] at h
    cases h
    rfl

theorem segDecodeBody_sound (s : State) (h : Layers s) (hmessage : s.mValid = true) : (segDecodeBody s).Sound := by
  rcases segDecodeBody_cases s with hback | hback | ⟨s1, s2, s3, hmode, hcount, hpayload, hdone⟩
  · exact hback.sound h
  · exact hback.sound (dropPayload_layers s h)
  · have h1 : Layers s1 := (segModeBody_sound s h hmessage).of_done hmode
    have hs1 := segModeBody_done_sstate s s1 hmode
    have h2 : Layers s2 := (segCountBody_sound s1 h1 (by simp [hs1])).of_done hcount
    have hs2 := segCountBody_done_sstate s1 s2 hcount
    rw [hdone]
    exact (segPayloadBody_sound s2 h2 (by simp [hs2])).of_done hpayload

theorem Result.Sound.andThen {r : Result} {next : State → Result} (h : r.Sound)
    (hnext : ∀ s, r = .done s → Layers s → (next s).Sound) : (r.andThen next).Sound := by
  cases r with
  | done s => exact hnext s rfl h
  | failed e s => exact h

theorem fmtGatherBody_sound (s : State) (h : Layers s) : (fmtGatherBody s).Sound :=
  ⟨h.config, h.raw, h.message, h.segment, h.error, h.buffers⟩

theorem recordFormat_of_version (d : BitVec 5) (m : Nat) (s : State) (hversion : s.vValid = true) :
    recordFormat d m s = applyFormat d { s with fmtResult := decodeWord d m } := by
  rw [recordFormat, if_pos hversion]

/-- With a version configured a successful format decode leaves a format. -/
theorem fmtDecode2Body_done_fValid (s t : State) (hversion : s.vValid = true) (h : fmtDecode2Body s = .done t) :
    t.fValid = true := by
  rcases fmtDecode2Body_cases s with ⟨e, _, hfail⟩ | ⟨d, m, hdone⟩
  · rw [hfail] at h
    cases h
  · rw [hdone, recordFormat_of_version d m s hversion] at h
    cases h
    rfl

theorem rsCorrectBody_done_mValid (s t : State) (h : rsCorrectBody s = .done t) : t.mValid = true := by
  rcases rsCorrectBody_cases s with ⟨e, _, hfail⟩ | ⟨message, corrections, hdone⟩
  · rw [hfail] at h
    cases h
  · rw [hdone] at h
    cases h
    rfl

/-- Each sub-step of DECODE_ALL leaves what the next one needs (44_control.md R221). -/
theorem decodeAllBody_sound (s : State) (h : Layers s) (hversion : s.vValid = true) : (decodeAllBody s).Sound := by
  refine (fmtGatherBody_sound s h).andThen fun s1 hs1 h1 => ?_
  have hversion1 : s1.vValid = true := by
    cases hs1
    exact hversion
  refine (fmtDecode2Body_sound s1 h1).andThen fun s2 hs2 h2 => ?_
  have hformat := fmtDecode2Body_done_fValid s1 s2 hversion1 hs2
  refine (zzTraverseBody_sound s2 h2 hformat).andThen fun s3 hs3 h3 => ?_
  have hraw : s3.rValid = true := by
    cases hs3
    rfl
  refine (rsCorrectBody_sound s3 h3 hraw).andThen fun s4 hs4 h4 => ?_
  exact segDecodeBody_sound s4 h4 (rsCorrectBody_done_mValid s3 s4 hs4)

/-- Every command keeps the layers: what it needs of the state is its precondition. -/
theorem exec_layers (i : Instr) (s t : State) (h : Layers s) (hexec : exec i s = .next t) : Layers t := by
  cases i with
  | nop => exact finish_layers (.done s) t h hexec
  | setVersion ver => exact finish_layers _ t (setVersionBody_sound ver s h) hexec
  | setSide side => exact finish_layers _ t (setSideBody_sound side s h) hexec
  | setFormat fv => exact finish_layers _ t (require_sound _ s _ h (applyFormat_layers fv s h)) hexec
  | fmtEncode fv =>
    exact finish_layers (fmtEncodeBody fv s) t ⟨h.config, h.raw, h.message, h.segment, h.error, h.buffers⟩ hexec
  | fmtCheck sel =>
    exact finish_layers (fmtCheckBody sel s) t ⟨h.config, h.raw, h.message, h.segment, h.error, h.buffers⟩ hexec
  | fmtGather => exact finish_layers _ t (require_sound _ s _ h fun _ => fmtGatherBody_sound s h) hexec
  | fmtDecode1 => exact finish_layers _ t (fmtDecode1Body_sound s h) hexec
  | fmtDecode2 => exact finish_layers _ t (fmtDecode2Body_sound s h) hexec
  | maskEval mid row col =>
    exact finish_layers (maskEvalBody mid row col s) t ⟨h.config, h.raw, h.message, h.segment, h.error, h.buffers⟩ hexec
  | dzQuery x y => exact finish_layers _ t (require_sound _ s _ h fun _ => dzQueryBody_sound x y s h) hexec
  | zzTraverse =>
    refine finish_layers _ t (require_sound _ s _ h fun hready => ?_) hexec
    exact zzTraverseBody_sound s h (Bool.and_elim_right hready)
  | rawRead n =>
    exact finish_layers _ t (checkCount_sound n s _ h (require_sound _ s _ h (rawReadBody_sound n s h))) hexec
  | rawRewind => exact finish_layers _ t (require_sound _ s _ h fun _ => rawRewindBody_sound s h) hexec
  | rawClear =>
    refine finish_layers _ t (require_sound _ s _ h fun hready => ?_) hexec
    exact rawClearBody_sound s h (Bool.and_elim_right hready)
  | rawAppend n =>
    exact finish_layers _ t (checkCount_sound n s _ h (require_sound _ s _ h (rawAppendBody_sound n s h))) hexec
  | rsCorrect => exact finish_layers _ t (require_sound _ s _ h (rsCorrectBody_sound s h)) hexec
  | msgRead n =>
    exact finish_layers _ t (checkCount_sound n s _ h (require_sound _ s _ h (msgReadBody_sound n s h))) hexec
  | msgRewind => exact finish_layers _ t (require_sound _ s _ h (msgRewindBody_sound s h)) hexec
  | segMode =>
    refine finish_layers _ t (require_sound _ s _ h fun hready => ?_) hexec
    exact segModeBody_sound s h (Bool.and_elim_left hready)
  | segCount =>
    refine finish_layers _ t (require_sound _ s _ h fun hready => ?_) hexec
    exact segCountBody_sound s h (by simp [eq_of_beq hready])
  | segPayload =>
    refine finish_layers _ t (require_sound _ s _ h fun hready => ?_) hexec
    exact segPayloadBody_sound s h (by simp [eq_of_beq hready])
  | segDecode =>
    refine finish_layers _ t (require_sound _ s _ h fun hready => ?_) hexec
    exact segDecodeBody_sound s h (Bool.and_elim_left hready)
  | decodeAll => exact finish_layers _ t (require_sound _ s _ h (decodeAllBody_sound s h)) hexec

theorem runCommand_layers (s t : State) (h : Layers s) (hrun : runCommand s = .next t) : Layers t := by
  rcases runCommand_cases s with ⟨i, _, heq⟩ | ⟨_, _, heq⟩
  · exact exec_layers i s t h (heq.symm.trans hrun)
  · refine finish_layers (.failed ⟨.illegalCommand, s.cmdl⟩ s) t ⟨h, by simp⟩ ?_
    exact heq.symm.trans hrun

theorem submitCommand_layers (w : Word) (s : State) (h : Layers s) : Layers (submitCommand w s) := by
  rcases submitCommand_cases w s with ⟨_, heq⟩ | ⟨_, herr, heq⟩ <;> rw [heq]
  · exact ⟨h.config, h.raw, h.message, h.segment, h.error, h.buffers⟩
  · exact ⟨h.config, h.raw, h.message, h.segment, ⟨h.error.no_error, h.error.some_error, fun _ => herr⟩, h.buffers⟩

theorem clearError_layers (s : State) (h : Layers s) : Layers (clearError s) :=
  ⟨h.config, h.raw, h.message, h.segment, ⟨by simp, by simp, by simp⟩, h.buffers⟩

/-- Every input keeps the layers: all but a CMD write, CTRL and a reset write none of their registers. -/
theorem handleEvent_layers (e : Event) (s : State) (h : Layers s) : Layers (handleEvent e s) := by
  rcases handleEvent_cases e s with ⟨r, n, es, heq⟩ | ⟨r, heq⟩ | ⟨r, heq⟩ | ⟨w, r, heq⟩ | ⟨r, _, heq⟩ |
    ⟨w, f1, f2, r, _, heq⟩ | ⟨g, heq⟩ <;> rw [heq]
  · exact ⟨h.config, h.raw, h.message, h.segment, h.error, h.buffers⟩
  · have hr := reset_layers
    exact ⟨hr.config, hr.raw, hr.message, hr.segment, hr.error, hr.buffers⟩
  · have hc := clearError_layers s h
    exact ⟨hc.config, hc.raw, hc.message, hc.segment, hc.error, hc.buffers⟩
  · have hs := submitCommand_layers w s h
    exact ⟨hs.config, hs.raw, hs.message, hs.segment, hs.error, hs.buffers⟩
  · exact ⟨h.config, h.raw, h.message, h.segment, h.error, h.buffers⟩
  · exact ⟨h.config, h.raw, h.message, h.segment, h.error, h.buffers⟩
  · exact ⟨h.config, h.raw, h.message, h.segment, h.error, h.buffers⟩

theorem takeInput_layers (s : State) (h : Layers s) : Layers (takeInput s) := by
  cases hevents : s.events with
  | nil =>
    rw [takeInput_nil s hevents]
    exact h
  | cons e rest =>
    rw [takeInput_cons s e rest hevents]
    exact handleEvent_layers e _ ⟨h.config, h.raw, h.message, h.segment, h.error, h.buffers⟩

/-- Settles O48: a step is the engine's command or the next input, and both keep every layer of the invariant. -/
theorem stepKeepsInv : Obligations.StepKeepsInv := by
  unfold Obligations.StepKeepsInv
  intro s t hinv hstep
  rw [inv_iff_layers] at hinv ⊢
  rcases step_cases s t hstep with ⟨_, _, hrun⟩ | ⟨_, rfl⟩
  · exact runCommand_layers s t hinv hrun
  · exact takeInput_layers s hinv

end Sys2Proof.Machine
end

section
/-! SUPPORT. The frame of every command (10_state.md R25-R41, R44-R47): the parts of the state a body writes, and for
each part the commands that write it. -/

namespace Sys2Proof.Machine

/-- The parts of the state a frame speaks of: registers, valid bits and buffers, grouped by their writers. -/
inductive Part where
  | wdata
  | overrun
  | cmdl
  | error
  | rdata
  | fmtResult
  | version
  | format
  | samples
  | rValid
  | rawLen
  | rawPos
  | message
  | msgPos
  | sstate
  | segMode
  | segCount
  | outLen
  | rawBuf
  | msgBuf
  | outBuf

/-- The part is in t as it was in s. -/
@[simp] def Part.same (s t : State) : Part → Prop
  | .wdata => t.wdata = s.wdata
  | .overrun => t.overrun = s.overrun
  | .cmdl => t.cmdl = s.cmdl
  | .error => t.err = s.err ∧ t.errCode = s.errCode ∧ t.errInfo = s.errInfo
  | .rdata => t.rdata = s.rdata
  | .fmtResult => t.fmtResult = s.fmtResult
  | .version => t.version = s.version ∧ t.side = s.side ∧ t.vValid = s.vValid
  | .format => t.ecl = s.ecl ∧ t.maskId = s.maskId ∧ t.fValid = s.fValid
  | .samples => t.fmtS1 = s.fmtS1 ∧ t.fmtS2 = s.fmtS2
  | .rValid => t.rValid = s.rValid
  | .rawLen => t.rawLen = s.rawLen
  | .rawPos => t.rawPos = s.rawPos
  | .message => t.mValid = s.mValid ∧ t.msgLen = s.msgLen ∧ t.rsNcorr = s.rsNcorr
  | .msgPos => t.msgPos = s.msgPos
  | .sstate => t.sstate = s.sstate
  | .segMode => t.segMode = s.segMode
  | .segCount => t.segCount = s.segCount
  | .outLen => t.outLen = s.outLen
  | .rawBuf => t.rawBuf = s.rawBuf
  | .msgBuf => t.msgBuf = s.msgBuf
  | .outBuf => t.outBuf = s.outBuf

theorem Part.same_refl (s : State) (p : Part) : p.same s s := by
  cases p <;> simp

theorem Part.same_trans (s t u : State) (p : Part) (hst : p.same s t) (htu : p.same t u) : p.same s u := by
  cases p <;> simp_all

/-- Nothing but the listed parts was written. -/
def Writes (parts : List Part) (s t : State) : Prop := ∀ p, p ∉ parts → p.same s t

theorem writes_self (parts : List Part) (s : State) : Writes parts s s := fun p _ => p.same_refl s

theorem Writes.weaken {parts parts' : List Part} {s t : State} (h : Writes parts s t) (hsub : parts ⊆ parts') :
    Writes parts' s t :=
  fun p hp => h p fun hmem => hp (hsub hmem)

theorem Writes.trans {parts parts' : List Part} {s t u : State} (hst : Writes parts s t) (htu : Writes parts' t u) :
    Writes (parts ++ parts') s u := by
  intro p hp
  rw [List.mem_append, not_or] at hp
  exact p.same_trans s t u (hst p hp.1) (htu p hp.2)

/-! What each body writes. -/

/-- The state a body ends in, completed or failed. -/
def Result.state : Result → State
  | .done s => s
  | .failed _ s => s

@[simp] theorem Result.state_done (s : State) : (Result.done s).state = s := rfl

/-- What clear_seg writes; with the message's registers, what clear_msg writes; and so on (10_state.md R49). -/
@[simp] def segmentParts : List Part := [.sstate, .segMode, .segCount, .outLen]
@[simp] def messageParts : List Part := .message :: .msgPos :: segmentParts
@[simp] def rawParts : List Part := .rValid :: .rawLen :: .rawPos :: messageParts
@[simp] def formatParts : List Part := .format :: rawParts
@[simp] def versionParts : List Part := .version :: formatParts

theorem Result.RollsBack.writes {r : Result} {s : State} (h : r.RollsBack s) (parts : List Part) :
    Writes parts s r.state := by
  obtain ⟨e, _, rfl⟩ := h
  exact writes_self parts s

theorem clearMsg_writes (s : State) : Writes messageParts s (clearMsg s) := fun p hp => by
  cases p <;> simp at hp ⊢

theorem applyFormat_writes (d : BitVec 5) (s : State) : Writes formatParts s (applyFormat d s) := fun p hp => by
  cases p <;> simp at hp ⊢

theorem configureVersion_writes (v : Nat) (s : State) : Writes versionParts s (configureVersion v s) := fun p hp => by
  cases p <;> simp at hp ⊢

theorem fmtResult_writes (w : Word) (s : State) : Writes [.fmtResult] s { s with fmtResult := w } := fun p hp => by
  cases p <;> simp at hp ⊢

theorem rdata_writes (w : Word) (s : State) : Writes [.rdata] s { s with rdata := w } := fun p hp => by
  cases p <;> simp at hp ⊢

theorem recordFormat_writes (d : BitVec 5) (m : Nat) (s : State) :
    Writes (.fmtResult :: formatParts) s (recordFormat d m s) := by
  have hresult := fmtResult_writes (decodeWord d m) s
  unfold recordFormat
  split
  · exact hresult.trans (applyFormat_writes d _)
  · exact hresult.trans (writes_self formatParts _)

theorem storeMessage_writes (message : List Byte) (corrections : Nat) (s : State) :
    Writes (.msgBuf :: messageParts) s (storeMessage message corrections s) := fun p hp => by
  cases p <;> simp [storeMessage] at hp ⊢

theorem storePayload_writes (entries : List Entry) (pos : Nat) (s : State) :
    Writes [.outBuf, .outLen, .msgPos, .sstate] s (storePayload entries pos s) := fun p hp => by
  cases p <;> simp [storePayload] at hp ⊢

theorem dropPayload_writes (s : State) : Writes [.outLen] s (dropPayload s) := fun p hp => by
  cases p <;> simp at hp ⊢

theorem setVersionBody_writes (ver : BitVec 6) (s : State) : Writes versionParts s (setVersionBody ver s).state := by
  rcases setVersionBody_cases ver s with hback | ⟨_, hdone⟩
  · exact hback.writes _
  · rw [hdone]
    exact configureVersion_writes _ s

theorem setSideBody_writes (side : BitVec 8) (s : State) : Writes versionParts s (setSideBody side s).state := by
  rcases setSideBody_cases side s with hback | ⟨v, _, hdone⟩
  · exact hback.writes _
  · rw [hdone]
    exact configureVersion_writes v s

theorem setFormatBody_writes (fv : BitVec 5) (s : State) : Writes formatParts s (setFormatBody fv s).state :=
  applyFormat_writes fv s

theorem fmtEncodeBody_writes (fv : BitVec 5) (s : State) : Writes [.fmtResult] s (fmtEncodeBody fv s).state :=
  fmtResult_writes _ s

theorem fmtCheckBody_writes (sel : Sample) (s : State) : Writes [.fmtResult] s (fmtCheckBody sel s).state :=
  fmtResult_writes _ s

theorem fmtGatherBody_writes (s : State) : Writes [.samples] s (fmtGatherBody s).state := fun p hp => by
  cases p <;> simp [fmtGatherBody] at hp ⊢

theorem fmtDecode1Body_writes (s : State) : Writes (.fmtResult :: formatParts) s (fmtDecode1Body s).state := by
  rcases fmtDecode1Body_cases s with hback | ⟨d, m, hdone⟩
  · exact hback.writes _
  · rw [hdone]
    exact recordFormat_writes d m s

theorem fmtDecode2Body_writes (s : State) : Writes (.fmtResult :: formatParts) s (fmtDecode2Body s).state := by
  rcases fmtDecode2Body_cases s with hback | ⟨d, m, hdone⟩
  · exact hback.writes _
  · rw [hdone]
    exact recordFormat_writes d m s

theorem maskEvalBody_writes (mid : BitVec 3) (row col : BitVec 8) (s : State) :
    Writes [.rdata] s (maskEvalBody mid row col s).state :=
  rdata_writes _ s

theorem dzQueryBody_writes (x y : BitVec 8) (s : State) : Writes [.rdata] s (dzQueryBody x y s).state := by
  rcases dzQueryBody_cases x y s with hback | ⟨w, hdone⟩
  · exact hback.writes _
  · rw [hdone]
    exact rdata_writes w s

theorem zzTraverseBody_writes (s : State) : Writes (.rawBuf :: rawParts) s (zzTraverseBody s).state := fun p hp => by
  cases p <;> simp [zzTraverseBody] at hp ⊢

theorem rawClearBody_writes (s : State) : Writes rawParts s (rawClearBody s).state := fun p hp => by
  cases p <;> simp [rawClearBody] at hp ⊢

theorem appendRaw_writes (n : BitVec 6) (s : State) : Writes [.rawBuf, .rawLen] s (appendRaw n s) := fun p hp => by
  cases p <;> simp [appendRaw] at hp ⊢

theorem rawAppendBody_writes (n : BitVec 6) (s : State) :
    Writes (.rawBuf :: .rawLen :: messageParts) s (rawAppendBody n s).state := by
  have happend := appendRaw_writes n s
  rcases rawAppendBody_cases n s with hback | ⟨_, hdone⟩
  · exact hback.writes _
  · rw [hdone]
    exact happend.trans (clearMsg_writes _)

theorem rawReadBody_writes (n : BitVec 6) (s : State) : Writes [.rdata, .rawPos] s (rawReadBody n s).state := by
  rcases rawReadBody_cases n s with hback | ⟨_, w, hdone⟩
  · exact hback.writes _
  · rw [hdone]
    exact fun p hp => by cases p <;> simp at hp ⊢

theorem rawRewindBody_writes (s : State) : Writes [.rawPos] s (rawRewindBody s).state := fun p hp => by
  cases p <;> simp [rawRewindBody] at hp ⊢

theorem rsCorrectBody_writes (s : State) : Writes (.msgBuf :: messageParts) s (rsCorrectBody s).state := by
  rcases rsCorrectBody_cases s with hback | ⟨message, corrections, hdone⟩
  · exact hback.writes _
  · rw [hdone]
    exact storeMessage_writes message corrections s

theorem msgReadBody_writes (n : BitVec 6) (s : State) : Writes [.rdata, .msgPos] s (msgReadBody n s).state := by
  rcases msgReadBody_cases n s with hback | ⟨_, w, hdone⟩
  · exact hback.writes _
  · rw [hdone]
    exact fun p hp => by cases p <;> simp at hp ⊢

theorem msgRewindBody_writes (s : State) : Writes (.msgPos :: segmentParts) s (msgRewindBody s).state := fun p hp => by
  cases p <;> simp [msgRewindBody] at hp ⊢

theorem segModeBody_writes (s : State) : Writes [.msgPos, .segMode, .sstate] s (segModeBody s).state := by
  rcases segModeBody_cases s with hback | ⟨_, m, _, hdone⟩
  · exact hback.writes _
  · rw [hdone]
    exact fun p hp => by cases p <;> simp at hp ⊢

theorem segCountBody_writes (s : State) : Writes [.msgPos, .segCount, .sstate] s (segCountBody s).state := by
  rcases segCountBody_cases s with hback | ⟨_, c, hdone⟩
  · exact hback.writes _
  · rw [hdone]
    exact fun p hp => by cases p <;> simp at hp ⊢

theorem segPayloadBody_writes (s : State) : Writes [.outBuf, .outLen, .msgPos, .sstate] s (segPayloadBody s).state := by
  rcases segPayloadBody_cases s with ⟨e, _, hfail⟩ | ⟨entries, pos, _, hdone⟩
  · rw [hfail]
    exact (dropPayload_writes s).weaken (by simp)
  · rw [hdone]
    exact storePayload_writes entries pos s

theorem require_writes {parts : List Part} (ready : Bool) (s : State) (body : Result) (h : Writes parts s body.state) :
    Writes parts s (require ready s body).state := by
  rcases require_cases ready s body with ⟨_, heq⟩ | ⟨_, heq⟩ <;> rw [heq]
  · exact h
  · exact writes_self parts s

theorem checkCount_writes {parts : List Part} (n : BitVec 6) (s : State) (body : Result)
    (h : Writes parts s body.state) : Writes parts s (checkCount n s body).state := by
  rcases checkCount_cases n s body with ⟨_, heq⟩ | ⟨_, heq⟩ <;> rw [heq]
  · exact h
  · exact writes_self parts s

theorem andThen_writes {parts parts' : List Part} {r : Result} {s : State} {next : State → Result}
    (h : Writes parts s r.state) (hnext : ∀ u, Writes parts' u (next u).state) :
    Writes (parts ++ parts') s (r.andThen next).state := by
  cases r with
  | done u => exact h.trans (hnext u)
  | failed e u => exact h.weaken (List.subset_append_left _ _)

theorem Writes.of_done {parts : List Part} {r : Result} {s t : State} (h : Writes parts s r.state)
    (hdone : r = .done t) : Writes parts s t := by
  subst hdone
  exact h

/-- What the three bodies of SEG_DECODE write. -/
def segDecodeParts : List Part :=
  [.msgPos, .segMode, .sstate, .msgPos, .segCount, .sstate, .outBuf, .outLen, .msgPos, .sstate]

theorem segDecodeBody_writes (s : State) : Writes segDecodeParts s (segDecodeBody s).state := by
  rcases segDecodeBody_cases s with hback | ⟨e, _, hfail⟩ | ⟨s1, s2, s3, hmode, hcount, hpayload, hdone⟩
  · exact hback.writes _
  · rw [hfail]
    exact (dropPayload_writes s).weaken (by simp [segDecodeParts])
  · rw [hdone]
    have h1 := (segModeBody_writes s).of_done hmode
    have h2 := (segCountBody_writes s1).of_done hcount
    exact (h1.trans h2).trans ((segPayloadBody_writes s2).of_done hpayload)

/-- What the five sub-steps of DECODE_ALL write (44_control.md R221). -/
def decodeAllParts : List Part :=
  [Part.samples] ++
    (Part.fmtResult :: formatParts ++ (Part.rawBuf :: rawParts ++ (Part.msgBuf :: messageParts ++ segDecodeParts)))

theorem decodeAllBody_writes (s : State) : Writes decodeAllParts s (decodeAllBody s).state :=
  andThen_writes (fmtGatherBody_writes s) fun s1 =>
    andThen_writes (fmtDecode2Body_writes s1) fun s2 =>
      andThen_writes (zzTraverseBody_writes s2) fun s3 =>
        andThen_writes (rsCorrectBody_writes s3) segDecodeBody_writes

theorem raiseError_writes (e : CmdError) (s : State) : Writes [.error] s (raiseError e s) := fun p hp => by
  cases p <;> simp at hp ⊢

theorem complete_writes (s : State) : Writes [] s (complete s) := fun p _ => by
  cases p <;> simp

/-- The end of a command writes BUSY and the error record only. -/
theorem finish_writes (r : Result) (t : State) (h : finish r = .next t) : Writes [.error] r.state t := by
  rcases (finish_next_iff r t).mp h with ⟨s, rfl, rfl⟩ | ⟨e, s, rfl, rfl⟩
  · exact (complete_writes s).weaken (List.nil_subset _)
  · exact raiseError_writes e s

/-- A command that ends without raising an error leaves the error record as its body did. -/
theorem finish_error_record (r : Result) (t : State) (h : finish r = .next t) :
    t.err = true ∨ Part.error.same r.state t := by
  rcases (finish_next_iff r t).mp h with ⟨s, rfl, rfl⟩ | ⟨e, s, rfl, rfl⟩
  · exact Or.inr (complete_writes s .error List.not_mem_nil)
  · exact Or.inl rfl

/-! The commands that write each part. -/

/-- The commands that may clear or set a format; with the ones that start a raw stream; and so on. -/
def formatWriters : List String :=
  ["SET_VERSION", "SET_SIDE", "SET_FORMAT", "FMT_DECODE1", "FMT_DECODE2", "DECODE_ALL"]
def streamWriters : List String := formatWriters ++ ["ZZ_TRAVERSE", "RAW_CLEAR"]
def messageWriters : List String := streamWriters ++ ["RAW_APPEND", "RS_CORRECT"]
def segmentWriters : List String := messageWriters ++ ["MSG_REWIND", "SEG_DECODE"]

/-- The commands that write a part. Only the end of a command writes the error record, so no body is named for it. -/
def Part.writers : Part → List String
  | .wdata | .overrun | .cmdl | .error => []
  | .rdata => ["RAW_READ", "MSG_READ", "MASK_EVAL", "DZ_QUERY"]
  | .fmtResult => ["FMT_ENCODE", "FMT_CHECK", "FMT_DECODE1", "FMT_DECODE2", "DECODE_ALL"]
  | .version => ["SET_VERSION", "SET_SIDE"]
  | .format => formatWriters
  | .samples => ["FMT_GATHER", "DECODE_ALL"]
  | .rValid => streamWriters
  | .rawLen => streamWriters ++ ["RAW_APPEND"]
  | .rawPos => streamWriters ++ ["RAW_READ", "RAW_REWIND"]
  | .message => messageWriters
  | .msgPos => segmentWriters ++ ["MSG_READ", "SEG_MODE", "SEG_COUNT", "SEG_PAYLOAD"]
  | .sstate => segmentWriters ++ ["SEG_MODE", "SEG_COUNT", "SEG_PAYLOAD"]
  | .segMode => segmentWriters ++ ["SEG_MODE"]
  | .segCount => segmentWriters ++ ["SEG_COUNT"]
  | .outLen => segmentWriters ++ ["SEG_PAYLOAD"]
  | .rawBuf => ["ZZ_TRAVERSE", "RAW_APPEND", "DECODE_ALL"]
  | .msgBuf => ["RS_CORRECT", "DECODE_ALL"]
  | .outBuf => ["SEG_PAYLOAD", "SEG_DECODE", "DECODE_ALL"]

/-- Every command is the end of a body that writes only parts the command is named for. -/
theorem exec_writes (i : Instr) (s : State) : ∃ (r : Result) (name : String) (parts : List Part),
    exec i s = finish r ∧ mnemonicOf i = name ∧ Writes parts s r.state ∧ ∀ p ∈ parts, name ∈ p.writers := by
  cases i with
  | nop => exact ⟨.done s, "NOP", [], rfl, rfl, writes_self [] s, by decide⟩
  | setVersion ver => exact ⟨_, "SET_VERSION", _, rfl, rfl, setVersionBody_writes ver s, by decide⟩
  | setSide side => exact ⟨_, "SET_SIDE", _, rfl, rfl, setSideBody_writes side s, by decide⟩
  | setFormat fv => exact ⟨_, "SET_FORMAT", _, rfl, rfl, require_writes _ s _ (setFormatBody_writes fv s), by decide⟩
  | fmtEncode fv => exact ⟨_, "FMT_ENCODE", _, rfl, rfl, fmtEncodeBody_writes fv s, by decide⟩
  | fmtCheck sel => exact ⟨_, "FMT_CHECK", _, rfl, rfl, fmtCheckBody_writes sel s, by decide⟩
  | fmtGather => exact ⟨_, "FMT_GATHER", _, rfl, rfl, require_writes _ s _ (fmtGatherBody_writes s), by decide⟩
  | fmtDecode1 => exact ⟨_, "FMT_DECODE1", _, rfl, rfl, fmtDecode1Body_writes s, by decide⟩
  | fmtDecode2 => exact ⟨_, "FMT_DECODE2", _, rfl, rfl, fmtDecode2Body_writes s, by decide⟩
  | maskEval mid row col => exact ⟨_, "MASK_EVAL", _, rfl, rfl, maskEvalBody_writes mid row col s, by decide⟩
  | dzQuery x y => exact ⟨_, "DZ_QUERY", _, rfl, rfl, require_writes _ s _ (dzQueryBody_writes x y s), by decide⟩
  | zzTraverse => exact ⟨_, "ZZ_TRAVERSE", _, rfl, rfl, require_writes _ s _ (zzTraverseBody_writes s), by decide⟩
  | rawRead n =>
    have hbody := require_writes s.rValid s _ (rawReadBody_writes n s)
    exact ⟨_, "RAW_READ", _, rfl, rfl, checkCount_writes n s _ hbody, by decide⟩
  | rawRewind => exact ⟨_, "RAW_REWIND", _, rfl, rfl, require_writes _ s _ (rawRewindBody_writes s), by decide⟩
  | rawClear => exact ⟨_, "RAW_CLEAR", _, rfl, rfl, require_writes _ s _ (rawClearBody_writes s), by decide⟩
  | rawAppend n =>
    have hbody := require_writes s.rValid s _ (rawAppendBody_writes n s)
    exact ⟨_, "RAW_APPEND", _, rfl, rfl, checkCount_writes n s _ hbody, by decide⟩
  | rsCorrect => exact ⟨_, "RS_CORRECT", _, rfl, rfl, require_writes _ s _ (rsCorrectBody_writes s), by decide⟩
  | msgRead n =>
    have hbody := require_writes s.mValid s _ (msgReadBody_writes n s)
    exact ⟨_, "MSG_READ", _, rfl, rfl, checkCount_writes n s _ hbody, by decide⟩
  | msgRewind => exact ⟨_, "MSG_REWIND", _, rfl, rfl, require_writes _ s _ (msgRewindBody_writes s), by decide⟩
  | segMode => exact ⟨_, "SEG_MODE", _, rfl, rfl, require_writes _ s _ (segModeBody_writes s), by decide⟩
  | segCount => exact ⟨_, "SEG_COUNT", _, rfl, rfl, require_writes _ s _ (segCountBody_writes s), by decide⟩
  | segPayload => exact ⟨_, "SEG_PAYLOAD", _, rfl, rfl, require_writes _ s _ (segPayloadBody_writes s), by decide⟩
  | segDecode => exact ⟨_, "SEG_DECODE", _, rfl, rfl, require_writes _ s _ (segDecodeBody_writes s), by decide⟩
  | decodeAll => exact ⟨_, "DECODE_ALL", _, rfl, rfl, require_writes _ s _ (decodeAllBody_writes s), by decide⟩

/-- Settles O52: a command leaves the parts that do not name it, and raises an error or leaves the error record. -/
theorem registersHaveTheirWriters : Obligations.RegistersHaveTheirWriters := by
  unfold Obligations.RegistersHaveTheirWriters
  rintro i s t format stream message segment rfl rfl rfl rfl hexec
  obtain ⟨r, name, parts, hfinish, rfl, hwrites, hnamed⟩ := exec_writes i s
  rw [hfinish] at hexec
  have hbody : ∀ p : Part, mnemonicOf i ∉ p.writers → p.same s r.state :=
    fun p hname => hwrites p fun hmem => hname (hnamed p hmem)
  have hkept : ∀ p : Part, p ∉ [Part.error] → mnemonicOf i ∉ p.writers → p.same s t :=
    fun p hp hname => p.same_trans s r.state t (hbody p hname) (finish_writes r t hexec p hp)
  have herror : t.err = true ∨ Part.error.same s t :=
    (finish_error_record r t hexec).imp_right (Part.error.same_trans s r.state t (hbody .error List.not_mem_nil))
  exact ⟨hkept .wdata (by simp) List.not_mem_nil, hkept .overrun (by simp) List.not_mem_nil,
    hkept .cmdl (by simp) List.not_mem_nil, herror, hkept .rdata (by simp), hkept .fmtResult (by simp),
    hkept .version (by simp), hkept .format (by simp), hkept .samples (by simp), hkept .rValid (by simp),
    hkept .rawLen (by simp), hkept .rawPos (by simp), hkept .message (by simp), hkept .msgPos (by simp),
    hkept .sstate (by simp), hkept .segMode (by simp), hkept .segCount (by simp), hkept .outLen (by simp),
    hkept .rawBuf (by simp), hkept .msgBuf (by simp), hkept .outBuf (by simp)⟩

end Sys2Proof.Machine
end

section
/-! SUPPORT. Which agent a step lets move (20_memory.md R75), and the map of the bus (20_memory.md R60-R63): what a read
and a write do at a mapped and at an unmapped offset. -/

namespace Sys2Proof.Machine

/-- With a command in flight and no input due before it, a step runs what the latch decodes to. -/
theorem step_of_engine (s : State) (i : Instr) (hbusy : s.busy = true) (hdue : s.lag = 0 ∨ s.events = [])
    (hdecode : decode s.cmdl = .ok i) : step s = exec i s := by
  rw [step, if_pos (by simpa [engineMoves, hbusy] using hdue), runCommand, hdecode]

/-- With no command in flight, or an input due before it, a step takes the next input. -/
theorem step_of_input (s : State) (e : Event) (rest : List Event) (hevents : s.events = e :: rest)
    (hdue : s.busy = false ∨ s.lag ≠ 0) :
    step s = .next (handleEvent e { s with events := rest, lag := s.lag - 1 }) := by
  have hwait : engineMoves s = false := by
    rcases hdue with hbusy | hlag
    · simp [engineMoves, hbusy]
    · simp [engineMoves, hlag, hevents]
  simp [step, hwait, takeInput_cons s e rest hevents]

/-- With no command in flight and no input to come, a step holds the state. -/
theorem step_of_quiet (s : State) (hbusy : s.busy = false) (hevents : s.events = []) : step s = .next s := by
  simp [step, engineMoves, hbusy, takeInput_nil s hevents]

theorem withFetchWord_word (s : State) (w : Word) :
    s.withFetchWord 32 w.toNat = { latchCommand w s with lag := 0 } := by
  rw [State.withFetchWord, Nat.mod_eq_of_lt w.isLt, BitVec.ofNat_toNat, BitVec.setWidth_eq]

/-- Settles O6: the engine's turn, the fetch word as a latched command without lag, the input's turn, and rest. -/
theorem stepRunsTheLatchedCommand : Obligations.StepRunsTheLatchedCommand := by
  unfold Obligations.StepRunsTheLatchedCommand
  refine ⟨step_of_engine, fun s w i hdecode => ?_, step_of_input, step_of_quiet⟩
  rw [withFetchWord_word]
  exact step_of_latched _ i rfl rfl hdecode

/-- A read that reaches nothing is a bus error with a free word (20_memory.md R61, R62). -/
theorem handleEvent_read_unmapped (width : Width) (offset : BitVec 15) (s : State)
    (htarget : accessTarget width offset = none) :
    handleEvent (.access (.read width offset)) s =
      { s with reply := .readError (Config.freeBusWord s.draws), draws := s.draws + 1 } := by
  simp [handleEvent, hostAccess, hostRead, htarget]

theorem handleEvent_read_mapped (width : Width) (offset : BitVec 15) (t : Target) (s : State)
    (htarget : accessTarget width offset = some t) (hbusy : s.busy = false) :
    handleEvent (.access (.read width offset)) s = { s with reply := .data (readTarget t s) } := by
  simp [handleEvent, hostAccess, hostRead, htarget, hbusy]

theorem handleEvent_read_busy (width : Width) (offset : BitVec 15) (t : Target) (s : State)
    (htarget : accessTarget width offset = some t) (hbusy : s.busy = true) :
    handleEvent (.access (.read width offset)) s =
      { s with reply := .data (readWhileBusy t s), draws := s.draws + 1 } := by
  simp [handleEvent, hostAccess, hostRead, htarget, hbusy]

theorem handleEvent_write_unmapped (width : Width) (offset : BitVec 15) (v : Word) (s : State)
    (htarget : accessTarget width offset = none) :
    handleEvent (.access (.write width offset v)) s = { s with reply := .writeError } := by
  simp [handleEvent, hostAccess, hostWrite, htarget]

theorem handleEvent_write_mapped (width : Width) (offset : BitVec 15) (v : Word) (t : Target) (s : State)
    (htarget : accessTarget width offset = some t) :
    handleEvent (.access (.write width offset v)) s = { writeTarget t v s with reply := .written } := by
  simp [handleEvent, hostAccess, hostWrite, htarget]

/-- The holes of the bus space: past the last register, and between the MSG and OUT windows (20_memory.md R60). -/
theorem mapOffset_hole (n : Nat) (h : (0x54 ≤ n ∧ n < 0x1000) ∨ (0x3000 ≤ n ∧ n < 0x4000)) : mapOffset n = none := by
  rcases h with ⟨hpast, hpage⟩ | ⟨hlow, hhigh⟩
  · have hlen : registerMap.length ≤ n / 4 := by
      change 21 ≤ n / 4
      omega
    simp [mapOffset, hpage, List.getElem?_eq_none hlen]
  · rw [mapOffset, if_neg (by omega), if_neg (by omega), if_neg (by omega), if_pos hhigh]

theorem mapOffset_raw (n : Nat) (hlow : 0x1000 ≤ n) (hhigh : n < 0x2000) :
    mapOffset n = some (.raw ((n - 0x1000) / 4)) := by
  rw [mapOffset, if_neg (by omega), if_pos hhigh]

theorem mapOffset_msg (n : Nat) (hlow : 0x2000 ≤ n) (hhigh : n < 0x3000) :
    mapOffset n = some (.msg ((n - 0x2000) / 4)) := by
  rw [mapOffset, if_neg (by omega), if_neg (by omega), if_pos hhigh]

theorem mapOffset_out (n : Nat) (hlow : 0x4000 ≤ n) (hhigh : n < 0x8000) :
    mapOffset n = some (.out ((n - 0x4000) / 4)) := by
  rw [mapOffset, if_neg (by omega), if_neg (by omega), if_neg (by omega), if_neg (by omega), if_pos hhigh]

theorem accessTarget_of_aligned (offset : BitVec 15) (haligned : offset.toNat % 4 = 0) :
    accessTarget .word offset = mapOffset offset.toNat := by
  rw [accessTarget, if_pos ⟨rfl, haligned⟩]

/-- Every access R61 and R62 refuse reaches nothing. -/
theorem accessTarget_of_refused (width : Width) (offset : BitVec 15)
    (h : width ≠ .word ∨ offset.toNat % 4 ≠ 0 ∨ (0x54 ≤ offset.toNat ∧ offset.toNat < 0x1000) ∨
      (0x3000 ≤ offset.toNat ∧ offset.toNat < 0x4000)) : accessTarget width offset = none := by
  unfold accessTarget
  split
  · next haccepted =>
    obtain ⟨hword, haligned⟩ := haccepted
    rcases h with hwidth | hmisaligned | hhole
    · exact absurd hword hwidth
    · exact absurd haligned hmisaligned
    · exact mapOffset_hole _ hhole
  · rfl

/-- The aligned offsets below 0x54 are the registers' (10_state.md R22). -/
theorem exists_registerOffset (offset : BitVec 15) (haligned : offset.toNat % 4 = 0) (hpage : offset.toNat < 0x54) :
    ∃ r, offset = registerOffset r := by
  have hindex : offset.toNat / 4 < 21 := by omega
  refine ⟨_, Eq.trans (BitVec.eq_of_toNat_eq ?_) (registerOffset_of_index ⟨offset.toNat / 4, hindex⟩).symm⟩
  change offset.toNat = 4 * (offset.toNat / 4) % 2 ^ 15
  omega

theorem writeRegister_readOnly (r : Reg) (v : Word) (s : State) (h : r ∉ [.ctrl, .cmd, .wdata, .fmtS1, .fmtS2]) :
    writeRegister r v s = s := by
  cases r with
  | ctrl | cmd | wdata | fmtS1 | fmtS2 => simp at h
  | _ => rfl

/-- A write to a read-only register completes and is ignored (20_memory.md R63). -/
theorem handleEvent_write_readOnly (offset : BitVec 15) (v : Word) (s : State) (haligned : offset.toNat % 4 = 0)
    (hpage : offset.toNat < 0x54) (hoffset : offset ∉ [0x004#15, 0x008#15, 0x018#15, 0x020#15, 0x024#15]) :
    handleEvent (.access (.write .word offset v)) s = { s with reply := .written } := by
  obtain ⟨r, rfl⟩ := exists_registerOffset offset haligned hpage
  have hreadOnly : r ∉ [Reg.ctrl, .cmd, .wdata, .fmtS1, .fmtS2] :=
    fun hr => hoffset (List.mem_map_of_mem (f := registerOffset) hr)
  rw [handleEvent_writeRegister, writeRegister_readOnly r v s hreadOnly]

/-- A write to a window completes and is ignored (20_memory.md R63). -/
theorem handleEvent_write_window (offset : BitVec 15) (v : Word) (s : State) (haligned : offset.toNat % 4 = 0)
    (hwindow : (0x1000 ≤ offset.toNat ∧ offset.toNat < 0x3000) ∨ 0x4000 ≤ offset.toNat) :
    handleEvent (.access (.write .word offset v)) s = { s with reply := .written } := by
  have hspace : offset.toNat < 0x8000 := offset.isLt
  have htarget := accessTarget_of_aligned offset haligned
  rcases hwindow with ⟨hlow, hhigh⟩ | hlow
  · by_cases hraw : offset.toNat < 0x2000
    · rw [mapOffset_raw _ hlow hraw] at htarget
      exact handleEvent_write_mapped .word offset v _ s htarget
    · rw [mapOffset_msg _ (by omega) hhigh] at htarget
      exact handleEvent_write_mapped .word offset v _ s htarget
  · rw [mapOffset_out _ hlow hspace] at htarget
    exact handleEvent_write_mapped .word offset v _ s htarget

/-- Settles O56: a refused access reaches nothing; a write that reaches a read-only register or a window leaves the
block; CTRL and CMD hold the word 0 for a read. -/
theorem busErrorsAndIgnoredWrites : Obligations.BusErrorsAndIgnoredWrites := by
  unfold Obligations.BusErrorsAndIgnoredWrites
  refine fun s width offset v => ⟨fun hrefused => ?_, ?_, fun hbusy hoffset => ?_⟩
  · have htarget := accessTarget_of_refused width offset hrefused
    exact ⟨⟨_, handleEvent_read_unmapped width offset s htarget⟩, handleEvent_write_unmapped width offset v s htarget⟩
  · rintro rfl haligned (⟨hpage, hoffset⟩ | hwindow)
    · exact handleEvent_write_readOnly offset v s haligned hpage hoffset
    · exact handleEvent_write_window offset v s haligned hwindow
  · simp only [List.mem_cons, List.not_mem_nil, or_false] at hoffset
    rcases hoffset with rfl | rfl
    · exact handleEvent_readRegister .ctrl s hbusy
    · exact handleEvent_readRegister .cmd s hbusy

/-- The bus response is no part of what an offset holds. -/
theorem readTarget_reply (t : Target) (r : BusReply) (s : State) :
    readTarget t { s with reply := r } = readTarget t s := by
  cases t with
  | reg reg => cases reg <;> rfl
  | raw w | msg w | out w => rfl

/-- STATUS while BUSY: BUSY is 1 and OVERRUN is current (20_memory.md R80). -/
theorem statusWhileBusy_bits (free : Word) (overrun : Bool) :
    (statusWhileBusy free overrun).getLsbD 0 = true ∧ (statusWhileBusy free overrun).getLsbD 2 = overrun := by
  simp only [statusWhileBusy, BitVec.getLsbD_append]
  simp

/-- Settles O57: the frame of a read, the same word at the same offset when only the response changed, and the two
given bits of STATUS while BUSY. -/
theorem readsHaveNoSideEffect : Obligations.ReadsHaveNoSideEffect := by
  unfold Obligations.ReadsHaveNoSideEffect
  refine ⟨fun s width offset => hostRead_frame width offset s, ?_, fun s hbusy => ?_⟩
  · rintro s _ width offset w hbusy rfl hreply
    cases htarget : accessTarget width offset with
    | none => simp [handleEvent_read_unmapped width offset s htarget] at hreply
    | some t =>
      have hrepeat : handleEvent (.access (.read width offset)) { s with reply := .data (readTarget t s) } =
          { s with reply := .data (readTarget t { s with reply := .data (readTarget t s) }) } :=
        handleEvent_read_mapped width offset t _ htarget hbusy
      rw [handleEvent_read_mapped width offset t s htarget hbusy, hrepeat, readTarget_reply]
  · have hread := handleEvent_read_busy .word (registerOffset .status) _ s (accessTarget_registerOffset .status) hbusy
    exact ⟨_, _, hread, statusWhileBusy_bits (Config.freeBusWord s.draws) s.overrun⟩

end Sys2Proof.Machine
end

section
/-! SUPPORT. The windows (20_memory.md R64-R68): the bits of a number read most significant bit first, the bytes of a
little-endian word, and what each window offset holds. -/

namespace Sys2Proof.Machine

/-- Bit i of the number of a bit list is the list's bit i from the end (00_scope.md R11). -/
theorem testBit_bitsNat (bits : List Bool) (i : Nat) : (bitsNat bits).testBit i = bits.reverse.getD i false := by
  induction bits using List.reverseRecOn generalizing i with
  | nil => simp [bitsNat_nil]
  | append_singleton bits b ih =>
    rw [bitsNat_snoc, List.reverse_append, Nat.add_comm]
    cases i with
    | zero => cases b <;> simp [Nat.testBit_zero]
    | succ i =>
      have hhalf : (b.toNat + 2 * bitsNat bits) / 2 = bitsNat bits := by
        have := b.toNat_le
        omega
      rw [Nat.testBit_succ, hhalf, ih]
      simp

/-- Byte k of the RAW window shows RB(8k), RB(8k + 1), … from bit 7 down (20_memory.md R64). -/
theorem rawWindowByte_bit (s : State) (k b : Nat) (hb : b < 8) :
    (rawWindowByte s k).getLsbD (7 - b) = rawWindowBit s (8 * k + b) := by
  have hplace : 8 - 1 - (7 - b) = b := by omega
  rw [rawWindowByte, BitVec.getLsbD_ofNat, testBit_bitsNat]
  simp [show 7 - b < 8 by omega, hplace]

/-- The byte at the j-th address of a word stands in its j-th byte (20_memory.md R68). -/
theorem littleEndian_byte (byte : Nat → Byte) (w j : Nat) (hj : j < 4) :
    (littleEndian byte w).extractLsb' (8 * j) 8 = byte (4 * w + j) := by
  unfold littleEndian
  interval_cases j <;>
    simp (disch := omega) only [BitVec.extractLsb'_append_eq_of_le, BitVec.extractLsb'_append_eq_of_add_le,
      Nat.reduceMul, Nat.reduceSub, BitVec.extractLsb'_eq_self, Nat.add_zero]

theorem littleEndian_bit (byte : Nat → Byte) (w j b : Nat) (hj : j < 4) (hb : b < 8) :
    (littleEndian byte w).getLsbD (8 * j + b) = (byte (4 * w + j)).getLsbD b := by
  rw [← littleEndian_byte byte w j hj, BitVec.getLsbD_extractLsb']
  simp [hb]

/-- The j-th entry of a word of the OUT window (20_memory.md R66). -/
theorem outWindowWord_entry (s : State) (w j : Nat) (hj : j < 2) :
    (readTarget (.out w) s).extractLsb' (16 * j) 16 = outWindowEntry s (2 * w + j) := by
  simp only [readTarget]
  interval_cases j <;>
    simp (disch := omega) only [BitVec.extractLsb'_append_eq_of_le, BitVec.extractLsb'_append_eq_of_add_le,
      Nat.reduceMul, Nat.reduceSub, BitVec.extractLsb'_eq_self, Nat.add_zero]

/-- Word w from an aligned offset on reaches what the map gives there. -/
theorem accessTarget_word (start w : Nat) (hstart : start % 4 = 0) (hspace : start + 4 * w < 0x8000) :
    accessTarget .word (BitVec.ofNat 15 (start + 4 * w)) = mapOffset (start + 4 * w) := by
  have hoffset : (BitVec.ofNat 15 (start + 4 * w)).toNat = start + 4 * w := Nat.mod_eq_of_lt hspace
  rw [accessTarget_of_aligned _ (by omega), hoffset]

theorem accessTarget_raw (w : Nat) (hw : w < 1024) :
    accessTarget .word (BitVec.ofNat 15 (0x1000 + 4 * w)) = some (.raw w) := by
  rw [accessTarget_word 0x1000 w rfl (by omega), mapOffset_raw _ (by omega) (by omega), Nat.add_sub_cancel_left,
    Nat.mul_div_cancel_left w (by omega)]

theorem accessTarget_msg (w : Nat) (hw : w < 1024) :
    accessTarget .word (BitVec.ofNat 15 (0x2000 + 4 * w)) = some (.msg w) := by
  rw [accessTarget_word 0x2000 w rfl (by omega), mapOffset_msg _ (by omega) (by omega), Nat.add_sub_cancel_left,
    Nat.mul_div_cancel_left w (by omega)]

theorem accessTarget_out (w : Nat) (hw : w < 4096) :
    accessTarget .word (BitVec.ofNat 15 (0x4000 + 4 * w)) = some (.out w) := by
  rw [accessTarget_word 0x4000 w rfl (by omega), mapOffset_out _ (by omega) (by omega), Nat.add_sub_cancel_left,
    Nat.mul_div_cancel_left w (by omega)]

/-- Settles O58: each window offset reaches its word of the window, whose bytes or entries are the buffer's below its
length. -/
theorem windowsShowTheBuffers : Obligations.WindowsShowTheBuffers := by
  unfold Obligations.WindowsShowTheBuffers
  refine fun s hbusy => ⟨fun w hw => ⟨_, handleEvent_read_mapped _ _ _ s (accessTarget_raw w hw) hbusy, ?_⟩,
    fun w hw => ⟨_, handleEvent_read_mapped _ _ _ s (accessTarget_msg w hw) hbusy, ?_⟩,
    fun w hw => ⟨_, handleEvent_read_mapped _ _ _ s (accessTarget_out w hw) hbusy, outWindowWord_entry s w⟩⟩
  · intro j hj b hb
    have hposition : 8 * (4 * w + j) + b = 32 * w + 8 * j + b := by omega
    have hbit : (littleEndian (rawWindowByte s) w).getLsbD (8 * j + (7 - b)) =
        rawWindowBit s (32 * w + 8 * j + b) := by
      rw [littleEndian_bit _ w j (7 - b) hj (by omega), rawWindowByte_bit s _ b hb, hposition]
    refine hbit.trans ?_
    by_cases hbelow : 32 * w + 8 * j + b < s.rawLen.toNat <;> simp [rawWindowBit, hbelow]
  · exact littleEndian_byte (msgWindowByte s) w

end Sys2Proof.Machine
end

section
/-! SUPPORT. Commands that do not read a part of the state (20_memory.md R70; 42_rs_deinterleaver.md R177 b and d): a
body that is blind to an overlay of the state ends alike on the overlaid state, the overlay still on it. -/

namespace Sys2Proof.Machine

/-- The result with a change made to the state it ends in. -/
def Result.onState (f : State → State) : Result → Result
  | .done s => .done (f s)
  | .failed e s => .failed e (f s)

@[simp] theorem Result.onState_done (f : State → State) (s : State) : (Result.done s).onState f = .done (f s) := rfl

@[simp] theorem Result.onState_failed (f : State → State) (e : CmdError) (s : State) :
    (Result.failed e s).onState f = .failed e (f s) := rfl

theorem Result.onState_ite (f : State → State) (p : Prop) [Decidable p] (r r' : Result) :
    (if p then r else r').onState f = if p then r.onState f else r'.onState f :=
  apply_ite (Result.onState f) p r r'

/-- A change of the state that leaves CMDL, BUSY and the error record alone, and that the end of a command keeps. -/
structure Overlay (f : State → State) : Prop where
  cmdl : ∀ s, (f s).cmdl = s.cmdl
  complete : ∀ s, complete (f s) = f (complete s)
  raiseError : ∀ e s, raiseError e (f s) = f (raiseError e s)

/-- The body of a command on the overlaid state ends as on the state below, overlaid. -/
def BlindTo (f : State → State) (body : State → Result) : Prop := ∀ s, body (f s) = (body s).onState f

/-- A check whose condition the overlay keeps, of two blind outcomes. -/
theorem BlindTo.ite {f : State → State} {p : State → Prop} [DecidablePred p] {body body' : State → Result}
    (hp : ∀ s, p (f s) = p s) (hbody : BlindTo f body) (hbody' : BlindTo f body') :
    BlindTo f fun s => if p s then body s else body' s := fun s => by
  simp only [hp, hbody s, hbody' s, Result.onState_ite]

/-- The end of a command keeps the overlay. -/
theorem Overlay.finish_onState {f : State → State} (hf : Overlay f) (r : Result) :
    ∃ t, finish r = .next t ∧ finish (r.onState f) = .next (f t) := by
  cases r with
  | done s => exact ⟨_, rfl, congrArg Host.Outcome.next (hf.complete s)⟩
  | failed e s => exact ⟨_, rfl, congrArg Host.Outcome.next (hf.raiseError e s)⟩

theorem Overlay.require_onState {f : State → State} (hf : Overlay f) (ready : Bool) (s : State) (body : Result) :
    require ready (f s) (body.onState f) = (require ready s body).onState f := by
  cases ready <;> simp [hf.cmdl]

theorem Overlay.checkCount_onState {f : State → State} (hf : Overlay f) (n : BitVec 6) (s : State) (body : Result) :
    checkCount n (f s) (body.onState f) = (checkCount n s body).onState f := by
  rw [checkCount, checkCount, illegalCommand, hf.cmdl, Result.onState_ite]
  rfl

theorem Overlay.blindTo_require {f : State → State} (hf : Overlay f) {ready : State → Bool} {body : State → Result}
    (hready : ∀ s, ready (f s) = ready s) (hbody : BlindTo f body) :
    BlindTo f fun s => require (ready s) s (body s) := fun s => by
  simp only [hready, hbody s, hf.require_onState]

theorem Overlay.blindTo_checkCount {f : State → State} (hf : Overlay f) (n : BitVec 6) {body : State → Result}
    (hbody : BlindTo f body) : BlindTo f fun s => checkCount n s (body s) := fun s => by
  simp only [hbody s, hf.checkCount_onState]

/-- A command that ends a blind body answers alike on the overlaid state. -/
theorem Overlay.answers_alike {f : State → State} (hf : Overlay f) {body : State → Result} (hbody : BlindTo f body)
    (s : State) : ∃ t, finish (body s) = .next t ∧ finish (body (f s)) = .next (f t) := by
  rw [hbody]
  exact hf.finish_onState (body s)

/-- RS_CORRECT reads the raw stream's length, its pad bits and its bytes, and the configured layout. -/
theorem rsCorrectBody_of_same_reads {f : State → State} (s : State) (hlen : (f s).rawLen = s.rawLen)
    (hcap : capBits (f s) = capBits s) (hpad : padValue (f s) = padValue s)
    (hlayout : configuredLayout (f s) = configuredLayout s) (hbytes : rawBytes (f s) = rawBytes s)
    (hstore : ∀ message corrections,
      storeMessage message corrections (f s) = f (storeMessage message corrections s)) :
    rsCorrectBody (f s) = (rsCorrectBody s).onState f := by
  unfold rsCorrectBody
  rw [hlen, hcap, hpad, hlayout, hbytes, Result.onState_ite, Result.onState_ite]
  cases correctBlocks (configuredLayout s) (rawBytes s) 0 (blockCount (configuredLayout s)) with
  | error b => rfl
  | ok found => simp only [Result.onState_done, Result.onState_failed, hstore]

/-! The module source. -/

/-- The state with another module source, changed during the present command or not. -/
def withSource (g : Grid) (changed : Bool) (s : State) : State := { s with modules := g, drift := changed }

section
variable (g : Grid) (changed : Bool)

theorem withSource_overlay : Overlay (withSource g changed) :=
  ⟨fun _ => rfl, fun _ => rfl, fun _ _ => rfl⟩

theorem setVersionBody_blindTo_source (ver : BitVec 6) : BlindTo (withSource g changed) (setVersionBody ver) :=
  BlindTo.ite (fun _ => rfl) (fun _ => rfl) fun _ => rfl

theorem setSideBody_blindTo_source (side : BitVec 8) : BlindTo (withSource g changed) (setSideBody side) :=
  BlindTo.ite (fun _ => rfl) (fun _ => rfl) fun _ => rfl

theorem recordFormat_withSource (d : BitVec 5) (m : Nat) (s : State) :
    recordFormat d m (withSource g changed s) = withSource g changed (recordFormat d m s) := by
  unfold recordFormat
  rw [apply_ite (withSource g changed)]
  rfl

theorem formatOutcome_withSource (found : Except CmdError (BitVec 5 × Nat)) (s : State) :
    formatOutcome found (withSource g changed s) = (formatOutcome found s).onState (withSource g changed) := by
  cases found with
  | ok dm => exact congrArg Result.done (recordFormat_withSource g changed dm.1 dm.2 s)
  | error e => rfl

theorem fmtDecode1Body_blindTo_source : BlindTo (withSource g changed) fmtDecode1Body :=
  fun s => formatOutcome_withSource g changed (recover1 s.fmtS1) s

theorem fmtDecode2Body_blindTo_source : BlindTo (withSource g changed) fmtDecode2Body :=
  fun s => formatOutcome_withSource g changed (recover2 s.fmtS1 s.fmtS2) s

theorem dzQueryBody_blindTo_source (x y : BitVec 8) : BlindTo (withSource g changed) (dzQueryBody x y) :=
  BlindTo.ite (fun _ => rfl) (fun _ => rfl) fun _ => rfl

theorem rawReadBody_blindTo_source (n : BitVec 6) : BlindTo (withSource g changed) (rawReadBody n) :=
  BlindTo.ite (fun _ => rfl) (fun _ => rfl) fun _ => rfl

theorem rawAppendBody_blindTo_source (n : BitVec 6) : BlindTo (withSource g changed) (rawAppendBody n) :=
  BlindTo.ite (fun _ => rfl) (fun _ => rfl) fun _ => rfl

theorem msgReadBody_blindTo_source (n : BitVec 6) : BlindTo (withSource g changed) (msgReadBody n) :=
  BlindTo.ite (fun _ => rfl) (fun _ => rfl) fun _ => rfl

theorem rsCorrectBody_blindTo_source : BlindTo (withSource g changed) rsCorrectBody :=
  fun s => rsCorrectBody_of_same_reads s rfl rfl rfl rfl rfl fun _ _ => rfl

theorem acceptMode_blindTo_source (m : BitVec 4) : BlindTo (withSource g changed) (acceptMode m) :=
  BlindTo.ite (fun _ => rfl) (fun _ => rfl) (BlindTo.ite (fun _ => rfl) (fun _ => rfl) fun _ => rfl)

theorem segModeBody_blindTo_source : BlindTo (withSource g changed) segModeBody :=
  BlindTo.ite (fun _ => rfl) (fun _ => rfl) fun s => acceptMode_blindTo_source g changed _ s

theorem segCountBody_blindTo_source : BlindTo (withSource g changed) segCountBody :=
  BlindTo.ite (fun _ => rfl) (fun _ => rfl) fun _ => rfl

theorem takeGroup_withSource (s : State) : takeGroup (withSource g changed s) = takeGroup s := rfl

theorem takeGroups_withSource (s : State) (group : Group) (k pos : Nat) :
    takeGroups (withSource g changed s) group k pos = takeGroups s group k pos := by
  induction k generalizing pos with
  | zero => rfl
  | succ k ih => simp only [takeGroups, takeGroup_withSource, ih]

theorem takeThen_withSource (s : State) (group : Group) (k : Nat) (last : Option Group) (pos : Nat) :
    takeThen (withSource g changed s) group k last pos = takeThen s group k last pos := by
  simp only [takeThen, takeGroups_withSource, takeGroup_withSource]

/-- A payload is unpacked from the message alone (43_segment_decoder.md R197). -/
theorem payload_withSource (s : State) (mode : BitVec 4) (c pos : Nat) :
    payload (withSource g changed s) mode c pos = payload s mode c pos := by
  simp only [payload, takeThen_withSource]

theorem segPayloadBody_blindTo_source : BlindTo (withSource g changed) segPayloadBody := by
  intro s
  have hpayload : payload (withSource g changed s) (withSource g changed s).segMode
      (withSource g changed s).segCount.toNat (withSource g changed s).msgPos.toNat =
      payload s s.segMode s.segCount.toNat s.msgPos.toNat := payload_withSource g changed s _ _ _
  unfold segPayloadBody
  rw [hpayload]
  cases payload s s.segMode s.segCount.toNat s.msgPos.toNat <;> rfl

theorem segDecodeBody_blindTo_source : BlindTo (withSource g changed) segDecodeBody := by
  intro s
  unfold segDecodeBody
  rw [segModeBody_blindTo_source g changed s]
  cases segModeBody s with
  | failed e _ => rfl
  | done s1 =>
    simp only [Result.onState_done, segCountBody_blindTo_source g changed s1]
    cases segCountBody s1 with
    | failed e _ => rfl
    | done s2 =>
      simp only [Result.onState_done, segPayloadBody_blindTo_source g changed s2]
      cases segPayloadBody s2 <;> rfl

/-- Every command but the three that read the module port ends a body that is blind to the source (20_memory.md R70). -/
theorem exec_blindTo_source (i : Instr)
    (hname : mnemonicOf i ∉ ["FMT_GATHER", "ZZ_TRAVERSE", "DECODE_ALL"]) :
    ∃ body, (∀ s, exec i s = finish (body s)) ∧ BlindTo (withSource g changed) body := by
  have hf := withSource_overlay g changed
  cases i with
  | fmtGather | zzTraverse | decodeAll => simp [mnemonicOf] at hname
  | nop => exact ⟨.done, fun _ => rfl, fun _ => rfl⟩
  | setVersion ver => exact ⟨_, fun _ => rfl, setVersionBody_blindTo_source g changed ver⟩
  | setSide side => exact ⟨_, fun _ => rfl, setSideBody_blindTo_source g changed side⟩
  | setFormat fv =>
    exact ⟨_, fun _ => rfl, hf.blindTo_require (ready := (·.vValid)) (body := setFormatBody fv) (fun _ => rfl)
      fun _ => rfl⟩
  | fmtEncode fv => exact ⟨fmtEncodeBody fv, fun _ => rfl, fun _ => rfl⟩
  | fmtCheck sel =>
    refine ⟨fmtCheckBody sel, fun _ => rfl, fun s => ?_⟩
    cases sel <;> rfl
  | fmtDecode1 => exact ⟨_, fun _ => rfl, fmtDecode1Body_blindTo_source g changed⟩
  | fmtDecode2 => exact ⟨_, fun _ => rfl, fmtDecode2Body_blindTo_source g changed⟩
  | maskEval mid row col => exact ⟨maskEvalBody mid row col, fun _ => rfl, fun _ => rfl⟩
  | dzQuery x y =>
    exact ⟨_, fun _ => rfl,
      hf.blindTo_require (ready := (·.vValid)) (fun _ => rfl) (dzQueryBody_blindTo_source g changed x y)⟩
  | rawRead n =>
    exact ⟨_, fun _ => rfl, hf.blindTo_checkCount n
      (hf.blindTo_require (ready := (·.rValid)) (fun _ => rfl) (rawReadBody_blindTo_source g changed n))⟩
  | rawRewind =>
    exact ⟨_, fun _ => rfl, hf.blindTo_require (ready := (·.rValid)) (body := rawRewindBody) (fun _ => rfl)
      fun _ => rfl⟩
  | rawClear =>
    exact ⟨_, fun _ => rfl, hf.blindTo_require (ready := fun s => s.vValid && s.fValid) (body := rawClearBody)
      (fun _ => rfl) fun _ => rfl⟩
  | rawAppend n =>
    exact ⟨_, fun _ => rfl, hf.blindTo_checkCount n
      (hf.blindTo_require (ready := (·.rValid)) (fun _ => rfl) (rawAppendBody_blindTo_source g changed n))⟩
  | rsCorrect =>
    exact ⟨_, fun _ => rfl,
      hf.blindTo_require (ready := (·.rValid)) (fun _ => rfl) (rsCorrectBody_blindTo_source g changed)⟩
  | msgRead n =>
    exact ⟨_, fun _ => rfl, hf.blindTo_checkCount n
      (hf.blindTo_require (ready := (·.mValid)) (fun _ => rfl) (msgReadBody_blindTo_source g changed n))⟩
  | msgRewind =>
    exact ⟨_, fun _ => rfl, hf.blindTo_require (ready := (·.mValid)) (body := msgRewindBody) (fun _ => rfl)
      fun _ => rfl⟩
  | segMode =>
    exact ⟨_, fun _ => rfl, hf.blindTo_require (ready := fun s => s.mValid && s.sstate == .idle) (fun _ => rfl)
      (segModeBody_blindTo_source g changed)⟩
  | segCount =>
    exact ⟨_, fun _ => rfl, hf.blindTo_require (ready := (·.sstate == .modeRead)) (fun _ => rfl)
      (segCountBody_blindTo_source g changed)⟩
  | segPayload =>
    exact ⟨_, fun _ => rfl, hf.blindTo_require (ready := (·.sstate == .countRead)) (fun _ => rfl)
      (segPayloadBody_blindTo_source g changed)⟩
  | segDecode =>
    exact ⟨_, fun _ => rfl, hf.blindTo_require (ready := fun s => s.mValid && s.sstate == .idle) (fun _ => rfl)
      (segDecodeBody_blindTo_source g changed)⟩

end

/-! MASK_ID and the raw bits past the capacity. -/

/-- The state with another mask id and another raw buffer. -/
def withMaskAndRaw (m : BitVec 3) (b : Buf Bool) (s : State) : State := { s with maskId := m, rawBuf := b }

theorem withMaskAndRaw_overlay (m : BitVec 3) (b : Buf Bool) : Overlay (withMaskAndRaw m b) :=
  ⟨fun _ => rfl, fun _ => rfl, fun _ _ => rfl⟩

/-- Raw bits below a bound are those of a buffer that reads alike below it. -/
theorem rawBits_withMaskAndRaw (m : BitVec 3) (b : Buf Bool) (s : State) (bound pos n : Nat)
    (hread : ∀ k < bound, bufRead b k = bufRead s.rawBuf k) (hbound : pos + n ≤ bound) :
    rawBits (withMaskAndRaw m b s) pos n = rawBits s pos n := by
  refine List.map_congr_left fun k hk => hread (pos + k) ?_
  have := List.mem_range.mp hk
  omega

/-- RS_CORRECT is blind to the mask id and to a raw bit past the capacity (42_rs_deinterleaver.md R177 b and d). -/
theorem rsCorrectBody_withMaskAndRaw (m : BitVec 3) (b : Buf Bool) (s : State)
    (hread : ∀ k < capBitsOf s.version.toNat, bufRead b k = bufRead s.rawBuf k) :
    rsCorrectBody (withMaskAndRaw m b s) = (rsCorrectBody s).onState (withMaskAndRaw m b) := by
  have hbits : ∀ pos n, pos + n ≤ capBitsOf s.version.toNat →
      rawBits (withMaskAndRaw m b s) pos n = rawBits s pos n :=
    fun pos n => rawBits_withMaskAndRaw m b s _ pos n hread
  have hpad : padValue (withMaskAndRaw m b s) = padValue s :=
    congrArg bitsNat (hbits _ _ (Nat.le_refl _))
  have hbytes : rawBytes (withMaskAndRaw m b s) = rawBytes s := by
    refine List.map_congr_left fun k hk => congrArg (fun bits => BitVec.ofNat 8 (bitsNat bits)) (hbits _ _ ?_)
    have : k < totalCw s.version.toNat := List.mem_range.mp hk
    rw [capBitsOf]
    omega
  exact rsCorrectBody_of_same_reads s rfl rfl hpad rfl hbytes fun _ _ => rfl

/-- Settles O53: the bodies blind to the module source, and RS_CORRECT's blind to the mask id and the bits past the
capacity. -/
theorem modulePortIndependence : Obligations.ModulePortIndependence := by
  unfold Obligations.ModulePortIndependence
  refine ⟨fun i s g changed hname => ?_, fun s m b hread => ?_⟩
  · obtain ⟨body, hexec, hblind⟩ := exec_blindTo_source g changed i hname
    rw [hexec, hexec]
    exact (withSource_overlay g changed).answers_alike hblind s
  · have hf := withMaskAndRaw_overlay m b
    have hbody : require s.rValid (withMaskAndRaw m b s) (rsCorrectBody (withMaskAndRaw m b s)) =
        (require s.rValid s (rsCorrectBody s)).onState (withMaskAndRaw m b) := by
      rw [rsCorrectBody_withMaskAndRaw m b s hread, hf.require_onState]
    obtain ⟨t, hrun, hrun'⟩ := hf.finish_onState (require s.rValid s (rsCorrectBody s))
    exact ⟨t, hrun, (congrArg finish hbody).trans hrun'⟩

end Sys2Proof.Machine
end

section
/-! SUPPORT. The decoder (30_encoding.md R91-R94): which fields a format splits a word into, when a format accepts one,
and the word as its fields put together again, so that decode and encode are inverse and the rows of the opcode map
are the words of its commands. -/

namespace Sys2Proof

open Sys2Proof.Laws

/-! A word is its fields. -/

theorem word_of_formatN (w : Word) (op : BitVec 8) (hop : opcodeOf w = op) (hres : w.extractLsb' 0 24 = 0#24) :
    (op ++ 0#24 : BitVec 32) = w := by
  rw [← hop, ← hres]
  exact BitVec.extractLsb'_append_extractLsb' (w := 8)

/-- A word of an opcode, r reserved bits that are 0, and one operand of k bits. -/
theorem word_of_operand (r k : Nat) (w : Word) (op : BitVec 8) (hwidth : 8 + r + k = 32) (hop : opcodeOf w = op)
    (hres : w.extractLsb' k r = 0#r) : (op ++ 0#r ++ w.extractLsb' 0 k).cast hwidth = w := by
  have hstart : 24 = k + r := by omega
  rw [← hop, ← hres, opcodeOf, BitVec.extractLsb'_append_extractLsb'_eq_extractLsb' hstart,
    BitVec.extractLsb'_append_extractLsb'_eq_extractLsb' (Nat.zero_add k).symm]
  exact BitVec.eq_of_toNat_eq (by simpa [hwidth] using w.isLt)

theorem word_of_formatMX (w : Word) (op : BitVec 8) (hop : opcodeOf w = op) (hres : w.extractLsb' 16 5 = 0#5) :
    (op ++ w.extractLsb' 21 3 ++ 0#5 ++ w.extractLsb' 8 8 ++ w.extractLsb' 0 8 : BitVec 32) = w := by
  rw [← hop, ← hres, opcodeOf, BitVec.extractLsb'_append_extractLsb'_eq_extractLsb' (rfl : 24 = 21 + 3),
    BitVec.extractLsb'_append_extractLsb'_eq_extractLsb' (rfl : 21 = 16 + 5),
    BitVec.extractLsb'_append_extractLsb'_eq_extractLsb' (rfl : 16 = 8 + 8)]
  exact BitVec.extractLsb'_append_extractLsb' (w := 24)

theorem word_of_formatXY (w : Word) (op : BitVec 8) (hop : opcodeOf w = op) (hres : w.extractLsb' 16 8 = 0#8) :
    (op ++ 0#8 ++ w.extractLsb' 8 8 ++ w.extractLsb' 0 8 : BitVec 32) = w := by
  rw [← hop, ← hres, opcodeOf, BitVec.extractLsb'_append_extractLsb'_eq_extractLsb' (rfl : 24 = 16 + 8),
    BitVec.extractLsb'_append_extractLsb'_eq_extractLsb' (rfl : 16 = 8 + 8)]
  exact BitVec.extractLsb'_append_extractLsb' (w := 24)

theorem sampleBit_sampleOf (b : BitVec 1) : sampleBit (sampleOf b) = b := by
  revert b
  decide

/-! When a format accepts a word. -/

theorem whenZero_ok_iff {k : Nat} (reserved : BitVec k) (i j : Instr) :
    whenZero reserved i = .ok j ↔ reserved = 0#k ∧ i = j := by
  unfold whenZero
  split <;> simp [*]

theorem countLegal_iff (n : BitVec 6) : countLegal n = true ↔ n.toNat ≤ 32 := decide_eq_true_iff

theorem formatW_ok_iff (w : Word) (mk : BitVec 6 → Instr) (j : Instr) :
    formatW w mk = .ok j ↔
      w.extractLsb' 6 18 = 0#18 ∧ countLegal (w.extractLsb' 0 6) = true ∧ mk (w.extractLsb' 0 6) = j := by
  unfold formatW
  split
  · split <;> simp [*]
  · simp [*]

/-- A word that decodes is the word of the command it decodes to, and that command is well formed: along the rows of the
decoder (case h_k is its row k, and rows of one format share their argument), the opcode and the zero reserved bits are
the ones encode writes, and the operands are the word's fields. -/
theorem encode_of_decode (w : Word) (i : Instr) (h : decode w = .ok i) : i.wf = true ∧ encode i = w := by
  unfold decode at h
  split at h
  case h_1 hop | h_7 hop | h_8 hop | h_9 hop | h_12 hop | h_14 hop | h_15 hop | h_17 hop | h_19 hop | h_20 hop
      | h_21 hop | h_22 hop | h_23 hop | h_24 hop =>
    obtain ⟨hres, rfl⟩ := (whenZero_ok_iff _ _ _).mp h
    exact ⟨rfl, word_of_formatN w _ hop hres⟩
  case h_2 hop =>
    obtain ⟨hres, rfl⟩ := (whenZero_ok_iff _ _ _).mp h
    exact ⟨rfl, word_of_operand 18 6 w _ rfl hop hres⟩
  case h_3 hop =>
    obtain ⟨hres, rfl⟩ := (whenZero_ok_iff _ _ _).mp h
    exact ⟨rfl, word_of_operand 16 8 w _ rfl hop hres⟩
  case h_4 hop | h_5 hop =>
    obtain ⟨hres, rfl⟩ := (whenZero_ok_iff _ _ _).mp h
    exact ⟨rfl, word_of_operand 19 5 w _ rfl hop hres⟩
  case h_6 hop =>
    obtain ⟨hres, rfl⟩ := (whenZero_ok_iff _ _ _).mp h
    refine ⟨rfl, ?_⟩
    rw [encode, sampleBit_sampleOf]
    exact word_of_operand 23 1 w _ rfl hop hres
  case h_10 hop =>
    obtain ⟨hres, rfl⟩ := (whenZero_ok_iff _ _ _).mp h
    exact ⟨rfl, word_of_formatMX w _ hop hres⟩
  case h_11 hop =>
    obtain ⟨hres, rfl⟩ := (whenZero_ok_iff _ _ _).mp h
    exact ⟨rfl, word_of_formatXY w _ hop hres⟩
  case h_13 hop | h_16 hop | h_18 hop =>
    obtain ⟨hres, hcount, rfl⟩ := (formatW_ok_iff _ _ _).mp h
    exact ⟨hcount, word_of_operand 18 6 w _ rfl hop hres⟩
  case h_25 => cases h

/-! The rows of the opcode map. -/

/-- The bits of a word under a mask are those of the pattern it matches. -/
theorem extractLsb'_of_match (w mask pattern : Word) (start len : Nat) (hmatch : w &&& mask = pattern)
    (hmask : mask.extractLsb' start len = BitVec.allOnes len) :
    w.extractLsb' start len = pattern.extractLsb' start len := by
  rw [← hmatch, BitVec.extractLsb'_and, hmask, BitVec.and_allOnes]

theorem opcodeOf_of_match (w mask : Word) (op : BitVec 8) (hmask : mask.extractLsb' 24 8 = BitVec.allOnes 8)
    (hmatch : w &&& mask = (op ++ 0#24 : BitVec 32)) : opcodeOf w = op := by
  rw [opcodeOf, extractLsb'_of_match w mask _ 24 8 hmatch hmask, BitVec.extractLsb'_append_eq_left]

theorem reserved_of_match (start len : Nat) (w mask : Word) (op : BitVec 8) (hlow : start + len ≤ 24)
    (hmask : mask.extractLsb' start len = BitVec.allOnes len) (hmatch : w &&& mask = (op ++ 0#24 : BitVec 32)) :
    w.extractLsb' start len = 0#len := by
  rw [extractLsb'_of_match w mask _ start len hmatch hmask, BitVec.extractLsb'_append_eq_of_add_le hlow,
    BitVec.extractLsb'_zero]

theorem word_of_matchN (w : Word) (op : BitVec 8) (hmatch : w &&& 0xFFFFFFFF#32 = (op ++ 0#24 : BitVec 32)) :
    (op ++ 0#24 : BitVec 32) = w :=
  hmatch.symm.trans BitVec.and_allOnes

/-- A word that matches a row of one operand: the mask is all ones above the operand's bits. -/
theorem word_of_match (r k : Nat) (w mask : Word) (op : BitVec 8) (hwidth : 8 + r + k = 32)
    (hop : mask.extractLsb' 24 8 = BitVec.allOnes 8) (hres : mask.extractLsb' k r = BitVec.allOnes r)
    (hmatch : w &&& mask = (op ++ 0#24 : BitVec 32)) : (op ++ 0#r ++ w.extractLsb' 0 k).cast hwidth = w :=
  word_of_operand r k w op hwidth (opcodeOf_of_match w mask op hop hmatch)
    (reserved_of_match k r w mask op (by omega) hres hmatch)

/-- A word that matches a row of the opcode map is the word of a command of that row, well formed but for the count. -/
theorem exists_command_of_match (w : Word) (row : OpcodeRow) (hrow : row ∈ opcodeRows)
    (hmatch : w &&& row.mask = row.pattern) :
    ∃ i, encode i = w ∧ row.mnemonic = mnemonicOf i ∧
      ((row.counted = true → (w.extractLsb' 0 6).toNat ≤ 32) → i.wf = true) := by
  simp only [opcodeRows, List.cons_append, List.nil_append, List.mem_cons, List.not_mem_nil, or_false] at hrow
  rcases hrow with rfl | rfl | rfl | rfl | rfl | rfl | rfl | rfl | rfl | rfl | rfl | rfl | rfl | rfl | rfl | rfl |
    rfl | rfl | rfl | rfl | rfl | rfl | rfl | rfl
  · exact ⟨.nop, word_of_matchN w 0x00#8 hmatch, rfl, fun _ => rfl⟩
  · exact ⟨.setVersion _, word_of_match 18 6 w _ 0x01#8 rfl rfl rfl hmatch, rfl, fun _ => rfl⟩
  · exact ⟨.setSide _, word_of_match 16 8 w _ 0x02#8 rfl rfl rfl hmatch, rfl, fun _ => rfl⟩
  · exact ⟨.setFormat _, word_of_match 19 5 w _ 0x03#8 rfl rfl rfl hmatch, rfl, fun _ => rfl⟩
  · exact ⟨.fmtEncode _, word_of_match 19 5 w _ 0x10#8 rfl rfl rfl hmatch, rfl, fun _ => rfl⟩
  · refine ⟨.fmtCheck (sampleOf (w.extractLsb' 0 1)), ?_, rfl, fun _ => rfl⟩
    rw [encode, sampleBit_sampleOf]
    exact word_of_match 23 1 w _ 0x11#8 rfl rfl rfl hmatch
  · exact ⟨.fmtGather, word_of_matchN w 0x12#8 hmatch, rfl, fun _ => rfl⟩
  · exact ⟨.fmtDecode1, word_of_matchN w 0x13#8 hmatch, rfl, fun _ => rfl⟩
  · exact ⟨.fmtDecode2, word_of_matchN w 0x14#8 hmatch, rfl, fun _ => rfl⟩
  · have hword := word_of_formatMX w 0x20#8 (opcodeOf_of_match w _ _ rfl hmatch)
      (reserved_of_match 16 5 w _ 0x20#8 (by decide) rfl hmatch)
    exact ⟨.maskEval _ _ _, hword, rfl, fun _ => rfl⟩
  · have hword := word_of_formatXY w 0x21#8 (opcodeOf_of_match w _ _ rfl hmatch)
      (reserved_of_match 16 8 w _ 0x21#8 (by decide) rfl hmatch)
    exact ⟨.dzQuery _ _, hword, rfl, fun _ => rfl⟩
  · exact ⟨.zzTraverse, word_of_matchN w 0x22#8 hmatch, rfl, fun _ => rfl⟩
  · exact ⟨.rawRead _, word_of_match 18 6 w _ 0x30#8 rfl rfl rfl hmatch, rfl,
      fun hcount => (countLegal_iff _).mpr (hcount rfl)⟩
  · exact ⟨.rawRewind, word_of_matchN w 0x31#8 hmatch, rfl, fun _ => rfl⟩
  · exact ⟨.rawClear, word_of_matchN w 0x32#8 hmatch, rfl, fun _ => rfl⟩
  · exact ⟨.rawAppend _, word_of_match 18 6 w _ 0x33#8 rfl rfl rfl hmatch, rfl,
      fun hcount => (countLegal_iff _).mpr (hcount rfl)⟩
  · exact ⟨.rsCorrect, word_of_matchN w 0x40#8 hmatch, rfl, fun _ => rfl⟩
  · exact ⟨.msgRead _, word_of_match 18 6 w _ 0x50#8 rfl rfl rfl hmatch, rfl,
      fun hcount => (countLegal_iff _).mpr (hcount rfl)⟩
  · exact ⟨.msgRewind, word_of_matchN w 0x51#8 hmatch, rfl, fun _ => rfl⟩
  · exact ⟨.segMode, word_of_matchN w 0x60#8 hmatch, rfl, fun _ => rfl⟩
  · exact ⟨.segCount, word_of_matchN w 0x61#8 hmatch, rfl, fun _ => rfl⟩
  · exact ⟨.segPayload, word_of_matchN w 0x62#8 hmatch, rfl, fun _ => rfl⟩
  · exact ⟨.segDecode, word_of_matchN w 0x63#8 hmatch, rfl, fun _ => rfl⟩
  · exact ⟨.decodeAll, word_of_matchN w 0x70#8 hmatch, rfl, fun _ => rfl⟩

/-- The word of every command matches the row of its mnemonic. -/
theorem encode_matches_row : ∀ i : Instr, EncodingRow.Statement i
  | .nop => EncodingRow.nop
  | .setVersion ver => EncodingRow.setVersion ver
  | .setSide side => EncodingRow.setSide side
  | .setFormat fv => EncodingRow.setFormat fv
  | .fmtEncode fv => EncodingRow.fmtEncode fv
  | .fmtCheck sel => EncodingRow.fmtCheck sel
  | .fmtGather => EncodingRow.fmtGather
  | .fmtDecode1 => EncodingRow.fmtDecode1
  | .fmtDecode2 => EncodingRow.fmtDecode2
  | .maskEval mid row col => EncodingRow.maskEval mid row col
  | .dzQuery x y => EncodingRow.dzQuery x y
  | .zzTraverse => EncodingRow.zzTraverse
  | .rawRead n => EncodingRow.rawRead n
  | .rawRewind => EncodingRow.rawRewind
  | .rawClear => EncodingRow.rawClear
  | .rawAppend n => EncodingRow.rawAppend n
  | .rsCorrect => EncodingRow.rsCorrect
  | .msgRead n => EncodingRow.msgRead n
  | .msgRewind => EncodingRow.msgRewind
  | .segMode => EncodingRow.segMode
  | .segCount => EncodingRow.segCount
  | .segPayload => EncodingRow.segPayload
  | .segDecode => EncodingRow.segDecode
  | .decodeAll => EncodingRow.decodeAll

/-- A command of a row with a count has that count as its one operand. -/
theorem count_le_of_counted (i : Instr) (row : OpcodeRow) (hwf : i.wf = true) (hrow : row ∈ opcodeRows)
    (hname : row.mnemonic = mnemonicOf i) (hcounted : row.counted = true) :
    ((encode i).extractLsb' 0 6).toNat ≤ 32 := by
  have hnames : ∀ row ∈ opcodeRows, row.counted = true →
      row.mnemonic ∈ ["RAW_READ", "RAW_APPEND", "MSG_READ"] := by decide
  have hmem := hnames row hrow hcounted
  rw [hname] at hmem
  cases i with
  | rawRead n | rawAppend n | msgRead n =>
    rw [encode, BitVec.extractLsb'_append_eq_right]
    exact (countLegal_iff n).mp hwf
  | _ => simp [mnemonicOf] at hmem

/-- A word that decodes matches a row of the opcode map, the one of its command. -/
theorem row_of_decode (w : Word) (i : Instr) (h : decode w = .ok i) :
    ∃ row ∈ opcodeRows, row.mnemonic = mnemonicOf i ∧ w &&& row.mask = row.pattern ∧
      (row.counted = true → (w.extractLsb' 0 6).toNat ≤ 32) := by
  obtain ⟨hwf, rfl⟩ := encode_of_decode w i h
  obtain ⟨row, hrow, hname, hmatch⟩ := encode_matches_row i
  exact ⟨row, hrow, hname, hmatch, count_le_of_counted i row hwf hrow hname⟩

/-- Settles O1: field by field, the decoder reads back what encode put at each format's place. -/
theorem decodeOfEncode : Obligations.DecodeOfEncode := by
  unfold Obligations.DecodeOfEncode
  exact Machine.decode_encode_of_wf

/-- Settles O2: the opcode, the zero reserved bits and the operands of a word that decodes are all its bits. -/
theorem encodeOfDecode : Obligations.EncodeOfDecode := by
  unfold Obligations.EncodeOfDecode
  exact encode_of_decode

/-- Settles O3: a word that decodes is the word of its command, which matches its row; a word that matches a row is the
word of a command of that row, which decodes when its count is legal. -/
theorem decodeIsTheOpcodeMap : Obligations.DecodeIsTheOpcodeMap := by
  unfold Obligations.DecodeIsTheOpcodeMap
  refine fun w => ⟨row_of_decode w, fun row hrow hmatch hcount => ?_⟩
  obtain ⟨i, rfl, hname, hwf⟩ := exists_command_of_match w row hrow hmatch
  exact ⟨i, Machine.decode_encode_of_wf i (hwf hcount), hname⟩

/-- Settles O4: each word is the word of its command. -/
theorem specWordsDecode : Obligations.SpecWordsDecode := by
  unfold Obligations.SpecWordsDecode
  have hdecode := Machine.decode_encode_of_wf
  exact ⟨hdecode .nop rfl, hdecode (.setVersion 2#6) rfl, hdecode (.setSide 25#8) rfl,
    hdecode (.setFormat 0b11010#5) rfl, hdecode (.fmtEncode 8#5) rfl, hdecode (.fmtCheck .s2) rfl,
    hdecode (.maskEval 3#3 1#8 2#8) rfl, hdecode (.dzQuery 8#8 13#8) rfl, hdecode (.rawRead 8#6) rfl,
    hdecode .rsCorrect rfl⟩

/-- Settles O5: a word that decoded would match a row with a legal count, so the latch holds no command, and the engine
raises ILLEGAL_COMMAND. -/
theorem illegalWordRaises : Obligations.IllegalWordRaises := by
  unfold Obligations.IllegalWordRaises
  intro s hbusy hlag hillegal
  have hmoves : Machine.engineMoves s = true := by simp [Machine.engineMoves, hbusy, hlag]
  rw [Machine.step, if_pos hmoves]
  rcases Machine.runCommand_cases s with ⟨i, hdecode, _⟩ | ⟨_, _, hraise⟩
  · obtain ⟨row, hrow, _, hmatch, hcount⟩ := row_of_decode s.cmdl i hdecode
    obtain ⟨hcounted, hlarge⟩ := hillegal row hrow hmatch
    exact absurd (hcount hcounted) (by omega)
  · exact hraise

end Sys2Proof
end

section
/-! SUPPORT. The errors each command raises (30_encoding.md R96; 60_exceptions.md R230, R232): a command is the check of
its count, its precondition, and a body that raises only the command's own errors. -/

namespace Sys2Proof.Machine

/-- The result fails with one of the listed codes, or leaves ERR as it was in s. -/
def Result.RaisesOnly (codes : List ErrorCode) (s : State) : Result → Prop
  | .done t => t.err = s.err
  | .failed e _ => e.code ∈ codes

theorem Result.RaisesOnly.weaken {codes codes' : List ErrorCode} {s : State} {r : Result} (h : r.RaisesOnly codes s)
    (hsub : codes ⊆ codes') : r.RaisesOnly codes' s := by
  cases r with
  | done t => exact h
  | failed e t => exact hsub h

/-- A check before a body: its error, or what the body raises. -/
theorem Result.RaisesOnly.check {codes : List ErrorCode} {s kept : State} {p : Prop} [Decidable p] {e : CmdError}
    {r : Result} (hcode : e.code ∈ codes) (h : r.RaisesOnly codes s) :
    (if p then .failed e kept else r).RaisesOnly codes s := by
  split
  · exact hcode
  · exact h

/-- Running on: the errors of both bodies, the second one run on whatever the first one leaves. -/
theorem andThen_raisesOnly {codes codes' : List ErrorCode} {s : State} {r : Result} {next : State → Result}
    (h : r.RaisesOnly codes s) (hnext : ∀ t, (next t).RaisesOnly codes' t) :
    (r.andThen next).RaisesOnly (codes ++ codes') s := by
  cases r with
  | failed e t => exact List.mem_append_left codes' h
  | done t =>
    have hdone : t.err = s.err := h
    have hrun := hnext t
    rw [andThen_done]
    cases hend : next t with
    | done u =>
      rw [hend] at hrun
      exact Eq.trans hrun hdone
    | failed e u =>
      rw [hend] at hrun
      exact List.mem_append_right codes hrun

/-! The bodies. -/

theorem setVersionBody_raisesOnly (ver : BitVec 6) (s : State) :
    (setVersionBody ver s).RaisesOnly [.illegalVersion] s :=
  .check (List.mem_singleton_self _) rfl

theorem setSideBody_raisesOnly (side : BitVec 8) (s : State) :
    (setSideBody side s).RaisesOnly [.illegalVersion] s :=
  .check (List.mem_singleton_self _) rfl

theorem recover1_error (w : BitVec 15) (e : CmdError) (h : recover1 w = .error e) : e.code = .formatCorrupt := by
  unfold recover1 at h
  split at h
  · cases h
  · exact nearest_error _ _ e h

theorem recover2_error (w1 w2 : BitVec 15) (e : CmdError) (h : recover2 w1 w2 = .error e) :
    e.code = .formatCorrupt := by
  unfold recover2 at h
  split at h
  · cases h
  · exact nearest_error _ _ e h

theorem recordFormat_err (d : BitVec 5) (m : Nat) (s : State) : (recordFormat d m s).err = s.err := by
  unfold recordFormat
  split <;> rfl

theorem formatOutcome_raisesOnly (found : Except CmdError (BitVec 5 × Nat)) (s : State)
    (hcode : ∀ e, found = .error e → e.code = .formatCorrupt) :
    (formatOutcome found s).RaisesOnly [.formatCorrupt] s := by
  cases found with
  | ok dm => exact recordFormat_err dm.1 dm.2 s
  | error e => exact List.mem_singleton.mpr (hcode e rfl)

theorem fmtDecode1Body_raisesOnly (s : State) : (fmtDecode1Body s).RaisesOnly [.formatCorrupt] s :=
  formatOutcome_raisesOnly _ s (recover1_error s.fmtS1)

theorem fmtDecode2Body_raisesOnly (s : State) : (fmtDecode2Body s).RaisesOnly [.formatCorrupt] s :=
  formatOutcome_raisesOnly _ s (recover2_error s.fmtS1 s.fmtS2)

theorem dzQueryBody_raisesOnly (x y : BitVec 8) (s : State) : (dzQueryBody x y s).RaisesOnly [.illegalCommand] s :=
  .check (List.mem_singleton_self _) rfl

theorem rawReadBody_raisesOnly (n : BitVec 6) (s : State) : (rawReadBody n s).RaisesOnly [.endOfData] s :=
  .check (List.mem_singleton_self _) rfl

theorem rawAppendBody_raisesOnly (n : BitVec 6) (s : State) : (rawAppendBody n s).RaisesOnly [.bufferFull] s :=
  .check (List.mem_singleton_self _) rfl

theorem rsCorrectBody_raisesOnly (s : State) :
    (rsCorrectBody s).RaisesOnly [.lengthMismatch, .dataCorruptPad, .dataCorruptRs] s := by
  refine .check (by simp) (.check (by simp) ?_)
  cases correctBlocks (configuredLayout s) (rawBytes s) 0 (blockCount (configuredLayout s)) with
  | error b => simp [Result.RaisesOnly]
  | ok found => rfl

theorem msgReadBody_raisesOnly (n : BitVec 6) (s : State) : (msgReadBody n s).RaisesOnly [.endOfData] s :=
  .check (List.mem_singleton_self _) rfl

theorem acceptMode_raisesOnly (m : BitVec 4) (s : State) :
    (acceptMode m s).RaisesOnly [.unsupported, .illegalMode] s := by
  refine .check (by simp) ?_
  split
  · rfl
  · simp [Result.RaisesOnly]

theorem segModeBody_raisesOnly (s : State) :
    (segModeBody s).RaisesOnly [.endOfData, .unsupported, .illegalMode] s :=
  .check List.mem_cons_self ((acceptMode_raisesOnly _ s).weaken (List.subset_cons_self _ _))

theorem segCountBody_raisesOnly (s : State) : (segCountBody s).RaisesOnly [.endOfData] s :=
  .check (List.mem_singleton_self _) rfl

theorem takeThen_error (s : State) (g : Group) (k : Nat) (last : Option Group) (pos : Nat) (e : CmdError)
    (h : takeThen s g k last pos = .error e) : ∃ g' pos', takeGroup s g' pos' = .error e := by
  unfold takeThen at h
  split at h
  · next hgroups =>
    cases h
    obtain ⟨j, _, hgroup⟩ := takeGroups_error s g k pos e hgroups
    exact ⟨_, _, hgroup⟩
  · split at h
    · cases h
    · split at h
      · next hfinal =>
        cases h
        exact ⟨_, _, hfinal⟩
      · cases h

/-- A payload fails because one of its groups does. -/
theorem payload_error (s : State) (mode : BitVec 4) (c pos : Nat) (e : CmdError)
    (h : payload s mode c pos = .error e) : ∃ g' pos', takeGroup s g' pos' = .error e := by
  unfold payload at h
  split_ifs at h
  all_goals exact takeThen_error s _ _ _ _ e h

theorem segPayloadBody_raisesOnly (s : State) : (segPayloadBody s).RaisesOnly [.endOfData, .illegalValue] s := by
  unfold segPayloadBody
  split
  · next e hpayload =>
    obtain ⟨g, pos, hgroup⟩ := payload_error s _ _ _ e hpayload
    rcases takeGroup_error s g pos e hgroup with rfl | rfl <;> simp [Result.RaisesOnly, endOfData, illegalValue]
  · rfl

/-- SEG_DECODE raises what its three bodies raise, run one after the other; only the state it keeps differs
(43_segment_decoder.md R204). -/
theorem segDecodeBody_raisesOnly (s : State) :
    (segDecodeBody s).RaisesOnly [.endOfData, .unsupported, .illegalMode, .illegalValue] s := by
  have hrun := andThen_raisesOnly (segModeBody_raisesOnly s) fun s1 =>
    andThen_raisesOnly (segCountBody_raisesOnly s1) segPayloadBody_raisesOnly
  replace hrun := hrun.weaken (codes' := [.endOfData, .unsupported, .illegalMode, .illegalValue]) (by decide)
  unfold segDecodeBody
  revert hrun
  cases segModeBody s with
  | failed e _ => exact id
  | done s1 =>
    simp only [andThen_done]
    cases segCountBody s1 with
    | failed e _ => exact id
    | done s2 =>
      simp only [andThen_done]
      cases segPayloadBody s2 <;> exact id

/-- DECODE_ALL raises what its five sub-steps raise (44_control.md R221). -/
theorem decodeAllBody_raisesOnly (s : State) : (decodeAllBody s).RaisesOnly (ownErrors .decodeAll) s :=
  andThen_raisesOnly (codes := []) (s := s) rfl fun s1 =>
    andThen_raisesOnly (fmtDecode2Body_raisesOnly s1) fun s2 =>
      andThen_raisesOnly (codes := []) (s := s2) rfl fun s3 =>
        andThen_raisesOnly (rsCorrectBody_raisesOnly s3) segDecodeBody_raisesOnly

/-! The commands. -/

/-- A body behind the two checks every command makes: its count, then its precondition (30_encoding.md R96). -/
def guarded (i : Instr) (s : State) (body : Result) : Result :=
  if i.wf then require (precondition i s) s body else .failed (illegalCommand s) s

/-- Every command is the end of a guarded body that raises only the command's own errors. -/
theorem exec_guarded (i : Instr) (s : State) :
    ∃ body, exec i s = finish (guarded i s body) ∧ body.RaisesOnly (ownErrors i) s := by
  cases i with
  | nop => exact ⟨.done s, rfl, rfl⟩
  | setVersion ver => exact ⟨_, rfl, setVersionBody_raisesOnly ver s⟩
  | setSide side => exact ⟨_, rfl, setSideBody_raisesOnly side s⟩
  | setFormat fv => exact ⟨setFormatBody fv s, rfl, rfl⟩
  | fmtEncode fv => exact ⟨fmtEncodeBody fv s, rfl, rfl⟩
  | fmtCheck sel => exact ⟨fmtCheckBody sel s, rfl, rfl⟩
  | fmtGather => exact ⟨fmtGatherBody s, rfl, rfl⟩
  | fmtDecode1 => exact ⟨_, rfl, fmtDecode1Body_raisesOnly s⟩
  | fmtDecode2 => exact ⟨_, rfl, fmtDecode2Body_raisesOnly s⟩
  | maskEval mid row col => exact ⟨maskEvalBody mid row col s, rfl, rfl⟩
  | dzQuery x y => exact ⟨_, rfl, dzQueryBody_raisesOnly x y s⟩
  | zzTraverse => exact ⟨zzTraverseBody s, rfl, rfl⟩
  | rawRead n => exact ⟨_, rfl, rawReadBody_raisesOnly n s⟩
  | rawRewind => exact ⟨rawRewindBody s, rfl, rfl⟩
  | rawClear => exact ⟨rawClearBody s, rfl, rfl⟩
  | rawAppend n => exact ⟨_, rfl, rawAppendBody_raisesOnly n s⟩
  | rsCorrect => exact ⟨_, rfl, rsCorrectBody_raisesOnly s⟩
  | msgRead n => exact ⟨_, rfl, msgReadBody_raisesOnly n s⟩
  | msgRewind => exact ⟨msgRewindBody s, rfl, rfl⟩
  | segMode => exact ⟨_, rfl, segModeBody_raisesOnly s⟩
  | segCount => exact ⟨_, rfl, segCountBody_raisesOnly s⟩
  | segPayload => exact ⟨_, rfl, segPayloadBody_raisesOnly s⟩
  | segDecode => exact ⟨_, rfl, segDecodeBody_raisesOnly s⟩
  | decodeAll => exact ⟨_, rfl, decodeAllBody_raisesOnly s⟩

/-- The end of a command whose ERR is 1, though it was 0 before, holds the code its body raised. -/
theorem Result.RaisesOnly.errCode_mem {codes : List ErrorCode} {s t : State} {r : Result} (h : r.RaisesOnly codes s)
    (hclear : s.err = false) (hend : finish r = .next t) (herr : t.err = true) : t.errCode ∈ codes := by
  rcases (finish_next_iff r t).mp hend with ⟨u, rfl, rfl⟩ | ⟨e, u, rfl, rfl⟩
  · have hkept : u.err = s.err := h
    simp [hkept, hclear] at herr
  · exact h

/-- Settles O51: the two checks come first, in the order of R96, and what passes both is the command's own body. -/
theorem commandsRaiseTheirOwnErrors : Obligations.CommandsRaiseTheirOwnErrors := by
  unfold Obligations.CommandsRaiseTheirOwnErrors
  intro i s hclear
  obtain ⟨body, hexec, hraises⟩ := exec_guarded i s
  rw [hexec]
  cases hwf : i.wf with
  | false => exact ⟨raiseError (illegalCommand s) s, by simp [guarded, hwf], rfl, fun _ => rfl, by simp, by simp⟩
  | true =>
    cases hready : precondition i s with
    | false =>
      exact ⟨raiseError ⟨.sequence, s.cmdl⟩ s, by simp [guarded, hwf, hready], rfl, by simp, fun _ _ => rfl, by simp⟩
    | true =>
      have hguarded : guarded i s body = body := by simp [guarded, hwf, hready]
      obtain ⟨t, hend⟩ := finish_is_next body
      have hidle : t.busy = false := by
        rcases (finish_next_iff body t).mp hend with ⟨_, _, rfl⟩ | ⟨_, _, _, rfl⟩ <;> rfl
      exact ⟨t, by rw [hguarded, hend], hidle, by simp, by simp, fun _ _ => hraises.errCode_mem hclear hend⟩

end Sys2Proof.Machine
end

section
/-! SUPPORT. The BCH(15,5) code (00_scope.md R14; 40_format_codec.md R110): the remainder and the codeword map are
linear over GF(2), and a word differs from the codeword of its top five bits by its remainder. -/

namespace Sys2Proof.Machine

/-- What is common to two words cancels in their difference. -/
theorem xor_xor_xor_cancel {n : Nat} (a b c : BitVec n) : (a ^^^ c) ^^^ (b ^^^ c) = a ^^^ b := by
  have hgroup : (a ^^^ c) ^^^ (b ^^^ c) = (a ^^^ b) ^^^ (c ^^^ c) := by ac_rfl
  rw [hgroup, BitVec.xor_self, BitVec.xor_zero]

theorem bchStep_xor (a b : BitVec 15) (i : Nat) : bchStep (a ^^^ b) i = bchStep a i ^^^ bchStep b i := by
  cases ha : a.getLsbD (i + Config.fmtRemainderBits) <;> cases hb : b.getLsbD (i + Config.fmtRemainderBits) <;>
    simp only [bchStep, BitVec.getLsbD_xor, ha, hb, Bool.xor_true, Bool.xor_false, Bool.not_true, Bool.not_false,
      Bool.false_eq_true, if_true, if_false]
  · ac_rfl
  · ac_rfl
  · exact (xor_xor_xor_cancel a b _).symm

theorem bchrem_xor (a b : BitVec 15) : bchrem (a ^^^ b) = bchrem a ^^^ bchrem b := by
  have hfold : ∀ (places : List Nat) (a b : BitVec 15),
      places.foldl bchStep (a ^^^ b) = places.foldl bchStep a ^^^ places.foldl bchStep b := by
    intro places
    induction places with
    | nil => intro a b; rfl
    | cons i places ih => intro a b; rw [List.foldl_cons, bchStep_xor, ih]; rfl
  rw [bchrem, hfold, BitVec.extractLsb'_xor]
  rfl

/-- A word below x^10 is its own remainder: no step subtracts. -/
theorem bchrem_low (r : BitVec 10) : bchrem (0#5 ++ r : BitVec 15) = r := by
  have hstep : ∀ i, bchStep (0#5 ++ r : BitVec 15) i = (0#5 ++ r : BitVec 15) := fun i => by
    have hbit : (0#5 ++ r : BitVec 15).getLsbD (i + Config.fmtRemainderBits) = false :=
      BitVec.getLsbD_append.trans (by simp [Config.fmtRemainderBits])
    rw [bchStep, hbit]
    rfl
  simp only [bchrem, List.foldl_cons, List.foldl_nil, hstep]
  simp (disch := omega) only [BitVec.extractLsb'_append_eq_of_add_le, BitVec.extractLsb'_eq_self]

theorem fmtCw_xor (a b : BitVec 5) : fmtCw (a ^^^ b) = fmtCw a ^^^ fmtCw b := by
  have hshift : ((a ^^^ b) ++ 0#10 : BitVec 15) = (a ++ 0#10 : BitVec 15) ^^^ (b ++ 0#10 : BitVec 15) := by
    rw [BitVec.xor_append, BitVec.xor_self]
  rw [fmtCw, hshift, bchrem_xor, ← BitVec.xor_append]
  rfl

theorem fmtCw_zero : fmtCw 0#5 = 0#15 := by decide

@[simp] theorem fmtCw_top (d : BitVec 5) : (fmtCw d).extractLsb' 10 5 = d := by
  simp (disch := omega) only [fmtCw, BitVec.extractLsb'_append_eq_of_le, Nat.sub_self, BitVec.extractLsb'_eq_self]

/-- A word differs from the codeword of its top five bits by its remainder. -/
theorem xor_fmtCw_top (w : BitVec 15) : w ^^^ fmtCw (w.extractLsb' 10 5) = (0#5 ++ bchrem w : BitVec 15) := by
  obtain ⟨d, r, rfl⟩ : ∃ (d : BitVec 5) (r : BitVec 10), w = (d ++ r : BitVec 15) :=
    ⟨w.extractLsb' 10 5, w.extractLsb' 0 10, 
      (BitVec.extractLsb'_append_extractLsb' (w := 5) (len := 10)).symm⟩
  have hsplit : (d ++ r : BitVec 15) = (d ++ 0#10 : BitVec 15) ^^^ (0#5 ++ r : BitVec 15) := by
    rw [BitVec.xor_append, BitVec.xor_zero, BitVec.zero_xor]
  have hrem : bchrem (d ++ r : BitVec 15) = bchrem (d ++ 0#10 : BitVec 15) ^^^ r := by
    rw [hsplit, bchrem_xor, bchrem_low]
  simp (disch := omega) only [BitVec.extractLsb'_append_eq_of_le, Nat.sub_self, BitVec.extractLsb'_eq_self]
  rw [fmtCw, BitVec.xor_append, BitVec.xor_self, hrem, BitVec.xor_comm r]

/-- The remainder is 0 exactly for the codewords (40_format_codec.md R112). -/
theorem bchrem_eq_zero_iff (w : BitVec 15) : bchrem w = 0#10 ↔ ∃ d : BitVec 5, w = fmtCw d := by
  have hdiff := xor_fmtCw_top w
  constructor
  · intro hzero
    rw [hzero] at hdiff
    exact ⟨_, BitVec.xor_eq_zero_iff.mp hdiff⟩
  · rintro ⟨d, rfl⟩
    rw [fmtCw_top, BitVec.xor_self] at hdiff
    rw [← bchrem_low (bchrem (fmtCw d)), ← hdiff]
    rfl

end Sys2Proof.Machine
end

section
/-! SUPPORT. Distances (40_format_codec.md R113): the count of set bits as the size of the set of their places, the
distance 7 between two codewords, and what the search answers. -/

namespace Sys2Proof.Machine

/-- The places of the bits of a word. -/
def support (w : BitVec 15) : Finset Nat := {i ∈ Finset.range 15 | w.getLsbD i}

@[simp] theorem mem_support (w : BitVec 15) (i : Nat) : i ∈ support w ↔ w.getLsbD i = true := by
  simp only [support, Finset.mem_filter, Finset.mem_range, and_iff_right_iff_imp]
  exact BitVec.lt_of_getLsbD

theorem popcount_eq_card (w : BitVec 15) : popcount w = (support w).card := by
  rw [popcount, List.countP_eq_length_filter]
  simp only [support, Finset.filter, Finset.card, Finset.range, Multiset.range, Multiset.filter_coe, Multiset.coe_card,
    Bool.decide_eq_true]
  rfl

theorem popcount_le (w : BitVec 15) : popcount w ≤ 15 := by
  rw [popcount_eq_card]
  exact (Finset.card_filter_le _ _).trans_eq (Finset.card_range 15)

theorem support_xor (a b : BitVec 15) : support (a ^^^ b) = symmDiff (support a) (support b) := by
  ext i
  rw [Finset.mem_symmDiff, mem_support, mem_support, mem_support, BitVec.getLsbD_xor]
  cases a.getLsbD i <;> simp

theorem popcount_xor_le (a b : BitVec 15) : popcount (a ^^^ b) ≤ popcount a + popcount b := by
  simp only [popcount_eq_card, support_xor]
  exact (Finset.card_le_card Finset.symmDiff_subset_union).trans (Finset.card_union_le _ _)

/-- A word inside another one takes its places away. -/
theorem popcount_xor_of_subset (a b : BitVec 15) (hsub : support b ⊆ support a) :
    popcount (a ^^^ b) + popcount b = popcount a := by
  rw [popcount_eq_card, popcount_eq_card, popcount_eq_card, support_xor, symmDiff_of_ge hsub,
    Finset.card_sdiff_add_card_eq_card hsub]

theorem popcount_eq_zero_iff (w : BitVec 15) : popcount w = 0 ↔ w = 0#15 := by
  rw [popcount_eq_card, Finset.card_eq_zero]
  constructor
  · intro hempty
    refine BitVec.eq_of_getLsbD_eq fun i _ => ?_
    have hout : i ∉ support w := hempty ▸ Finset.notMem_empty i
    simpa using hout
  · rintro rfl
    rfl

/-- The minimum weight of the code. -/
theorem seven_le_popcount_fmtCw : ∀ d : BitVec 5, d ≠ 0#5 → 7 ≤ popcount (fmtCw d) := by decide +kernel

/-- Two codewords differ in at least seven bits, so no word is near both. -/
theorem seven_le_dist1_add (w : BitVec 15) (d d' : BitVec 5) (hne : d' ≠ d) : 7 ≤ dist1 w d + dist1 w d' := by
  have hweight := seven_le_popcount_fmtCw (d ^^^ d') fun h => hne (BitVec.xor_eq_zero_iff.mp h).symm
  rw [fmtCw_xor, ← xor_xor_xor_cancel _ _ w] at hweight
  exact hweight.trans (popcount_xor_le _ _)

theorem dist2_eq (w1 w2 : BitVec 15) (d : BitVec 5) : dist2 w1 w2 d = dist1 w1 d + dist1 w2 d := rfl

/-- The distance to the value of a codeword is the number of flipped bits. -/
theorem dist1_flipped (d : BitVec 5) (e : BitVec 15) : dist1 (fmtCw d ^^^ e) d = popcount e := by
  rw [dist1, ← BitVec.xor_assoc, BitVec.xor_self, BitVec.zero_xor]

theorem dist1_fmtCw (d : BitVec 5) : dist1 (fmtCw d) d = 0 := by
  rw [dist1, BitVec.xor_self]
  rfl

theorem nearest_dist1_of_le (w : BitVec 15) (d : BitVec 5) (hnear : dist1 w d ≤ 3) :
    nearest (dist1 w) Config.fmtBudget1 = .ok (d, dist1 w d) :=
  nearest_of_unique _ _ d hnear fun d' hne => by
    have := seven_le_dist1_add w d d' hne
    omega

theorem nearest_dist2_of_le (w1 w2 : BitVec 15) (d : BitVec 5) (hnear : dist2 w1 w2 d ≤ 6) :
    nearest (dist2 w1 w2) Config.fmtBudget2 = .ok (d, dist2 w1 w2 d) :=
  nearest_of_unique _ _ d hnear fun d' hne => by
    have h1 := seven_le_dist1_add w1 d d' hne
    have h2 := seven_le_dist1_add w2 d d' hne
    rw [dist2_eq] at hnear ⊢
    rw [dist2_eq]
    omega

/-- The answer for a sample with remainder 0 is the search's own. -/
theorem recover1_eq_nearest (w : BitVec 15) : recover1 w = nearest (dist1 w) Config.fmtBudget1 := by
  unfold recover1
  split
  next hzero =>
    obtain ⟨d, rfl⟩ := (bchrem_eq_zero_iff w).mp hzero
    rw [fmtCw_top, nearest_dist1_of_le _ d (by simp [dist1_fmtCw]), dist1_fmtCw]
  next => rfl

/-- The answer for two equal samples with remainder 0 is the search's own. -/
theorem recover2_eq_nearest (w1 w2 : BitVec 15) : recover2 w1 w2 = nearest (dist2 w1 w2) Config.fmtBudget2 := by
  unfold recover2
  split
  next hzero =>
    obtain ⟨hzero, _, rfl⟩ := hzero
    obtain ⟨d, rfl⟩ := (bchrem_eq_zero_iff w1).mp hzero
    have hdist : dist2 (fmtCw d) (fmtCw d) d = 0 := by simp [dist2_eq, dist1_fmtCw]
    rw [fmtCw_top, nearest_dist2_of_le _ _ d (by simp [hdist]), hdist]
  next => rfl

/-- Over the budget the search fails, and the tie flag says whether two values attain the least distance. -/
theorem nearest_over_budget (dist : BitVec 5 → Nat) (budget m : Nat) (tie : Bool) (hover : budget < m)
    (hleast : ∀ d, m ≤ dist d) (hattained : ∃ d, dist d = m)
    (htie : tie = true ↔ ∃ d1 d2, d1 ≠ d2 ∧ dist d1 = m ∧ dist d2 = m) :
    nearest dist budget = .error (formatCorrupt true tie m) := by
  obtain ⟨d0, hd0⟩ := hattained
  have hmin : minDistance dist = m := by
    obtain ⟨⟨d, hd⟩, hle⟩ := minDistance_spec dist
    exact le_antisymm (hd0 ▸ hle d0) (hd ▸ hleast d)
  have hmem := candidates_iff dist m
  have hnodup : (candidates dist m).Nodup := List.Nodup.filter _ (by decide)
  unfold nearest
  dsimp only
  rw [hmin]
  rcases hlist : candidates dist m with _ | ⟨d1, _ | ⟨d2, rest⟩⟩ <;> rw [hlist] at hmem hnodup
  · exact absurd ((hmem d0).mpr hd0) List.not_mem_nil
  · have halone : tie = false := by
      rw [Bool.eq_false_iff, Ne, htie]
      rintro ⟨a, b, hne, ha, hb⟩
      exact hne ((List.mem_singleton.mp ((hmem a).mpr ha)).trans (List.mem_singleton.mp ((hmem b).mpr hb)).symm)
    simp only [halone, if_pos hover]
  · have hne : d1 ≠ d2 := fun h => by simp [h] at hnodup
    have htied : tie = true := htie.mpr ⟨d1, d2, hne, (hmem d1).mp (by simp), (hmem d2).mp (by simp)⟩
    simp only [htied, decide_eq_true hover]

theorem toNat_append_eq_add {n m : Nat} (x : BitVec n) (y : BitVec m) :
    (x ++ y).toNat = 2 ^ m * x.toNat + y.toNat := by
  rw [BitVec.toNat_append, ← Nat.shiftLeft_add_eq_or_of_lt y.isLt, Nat.shiftLeft_eq, Nat.mul_comm]

/-- ERRINFO of a refusal over the budget (40_format_codec.md R113). -/
theorem formatCorrupt_over (tie : Bool) (m : Nat) (hm : m < 64) :
    formatCorrupt true tie m = ⟨.formatCorrupt, BitVec.ofNat 32 ((if tie then 0x300 else 0x200) + m)⟩ := by
  unfold formatCorrupt
  congr 1
  apply BitVec.eq_of_toNat_eq
  rw [zext32, BitVec.toNat_setWidth]
  simp only [toNat_append_eq_add, BitVec.toNat_ofNat, Nat.mod_eq_of_lt hm]
  cases tie <;> simp

end Sys2Proof.Machine
end

section
/-! SUPPORT. The format commands (40_format_codec.md R111-R118). -/

namespace Sys2Proof.Machine

theorem exec_fmtEncode (fv : BitVec 5) (s : State) :
    exec (.fmtEncode fv) s = .next { s with fmtResult := encodeWord fv, busy := false } := by
  rfl

theorem exec_fmtCheck (sel : Sample) (s : State) :
    exec (.fmtCheck sel) s = .next { s with fmtResult := zext32 (bchrem (sampleValue sel s)), busy := false } := by
  rfl

theorem exec_fmtGather (s : State) (hversion : s.vValid = true) :
    exec .fmtGather s = .next { s with
      fmtS1 := gatherSample s formatPositions1, fmtS2 := gatherSample s formatPositions2, busy := false } := by
  change finish (require s.vValid s (fmtGatherBody s)) = _
  rw [require, if_pos hversion]
  rfl

theorem exec_fmtDecode1 (s : State) :
    exec .fmtDecode1 s = finish (formatOutcome (nearest (dist1 s.fmtS1) Config.fmtBudget1) s) := by
  rw [← recover1_eq_nearest]
  rfl

theorem exec_fmtDecode2 (s : State) :
    exec .fmtDecode2 s = finish (formatOutcome (nearest (dist2 s.fmtS1 s.fmtS2) Config.fmtBudget2) s) := by
  rw [← recover2_eq_nearest]
  rfl

/-- Every codeword is a multiple of the generator (40_format_codec.md R110). -/
theorem fmtCw_multiple : ∀ d : BitVec 5, ∃ q : BitVec 5, fmtCw d =
    [0, 1, 2, 3, 4].foldl (fun acc i => if q.getLsbD i then acc ^^^ (0x537#15 <<< i) else acc) 0#15 := by
  decide +kernel

/-- Settles O14: the codeword carries the value on top and has a quotient by the generator. -/
theorem fmtEncodeResult : Obligations.FmtEncodeResult := by
  unfold Obligations.FmtEncodeResult
  intro fv s
  obtain ⟨q, hq⟩ := fmtCw_multiple fv
  exact ⟨fmtCw fv, q, exec_fmtEncode fv s, fmtCw_top fv, hq⟩

theorem zext32_eq_zero_iff {k : Nat} (hk : k ≤ 32) (v : BitVec k) : zext32 v = 0#32 ↔ v = 0#k := by
  constructor
  · intro h
    have hnat := congrArg BitVec.toNat h
    rw [zext32, BitVec.toNat_setWidth_of_le hk] at hnat
    exact BitVec.eq_of_toNat_eq (by simpa using hnat)
  · rintro rfl
    simp [zext32]

/-- Settles O15: the remainder is the difference from the codeword of the top bits. -/
theorem fmtCheckRemainder : Obligations.FmtCheckRemainder := by
  unfold Obligations.FmtCheckRemainder
  rintro sel s w hw
  have hsample : sampleValue sel s = w := by
    rw [hw]
    cases sel <;> rfl
  have hword : zext32 (bchrem w) = (w ^^^ fmtCw (w.extractLsb' 10 5)).setWidth 32 := by
    apply BitVec.eq_of_toNat_eq
    rw [xor_fmtCw_top, zext32, BitVec.toNat_setWidth, BitVec.toNat_setWidth, toNat_append_eq_add]
    simp
  refine ⟨_, exec_fmtCheck sel s, ?_, ?_⟩
  · rw [hsample, hword]
  · rw [hsample]
    exact (zext32_eq_zero_iff (by decide) _).trans (bchrem_eq_zero_iff w)

/-- A coordinate inside the symbol is read as it stands (20_memory.md R72). -/
theorem wrapCoordinate_natCast (side c : Nat) (h : c < side) : wrapCoordinate side c = c := by
  rw [wrapCoordinate, Int.emod_eq_of_lt (by omega) (by omega), Int.toNat_natCast]

/-- A negative coordinate counts from SIDE (20_memory.md R72). -/
theorem wrapCoordinate_neg (side c : Nat) (hpos : 0 < c) (h : c ≤ side) : wrapCoordinate side (-c) = side - c := by
  rw [wrapCoordinate, ← Int.add_emod_right, Int.emod_eq_of_lt (by omega) (by omega)]
  omega

/-- Bit 14 - k of a sample is the module at its k-th position, the mask removed (40_format_codec.md R117). -/
theorem gatherSample_bit (s : State) (positions : List (Int × Int)) (hlength : positions.length = 15)
    (hstable : s.drift = false) (k : Nat) (hk : k < 15) :
    (gatherSample s positions).getLsbD (14 - k) =
      xor (gridBit s.modules (wrapCoordinate s.side.toNat (positions.getD k (0, 0)).1)
        (wrapCoordinate s.side.toNat (positions.getD k (0, 0)).2)) ((0x5412#15).getLsbD (14 - k)) := by
  have hplace : 14 - (14 - k) = k := by omega
  rw [gatherSample, BitVec.getLsbD_xor, BitVec.getLsbD_ofNat, testBit_bitsNat]
  simp [hlength, hplace, hk, moduleRead_stable _ _ _ hstable, show 14 - k < 15 by omega, Config.fmtMask]

/-- Row 1 of the position table: no coordinate is negative (40_format_codec.md R116). -/
theorem formatPositions1_getD : ∀ k < 15, ∃ x < 9, ∃ y < 9,
    formatPositions1.getD k (0, 0) = (((x : Nat) : Int), ((y : Nat) : Int)) ∧
    [0, 1, 2, 3, 4, 5, 7, 8, 8, 8, 8, 8, 8, 8, 8].getD k 0 = x ∧
    [8, 8, 8, 8, 8, 8, 8, 8, 7, 5, 4, 3, 2, 1, 0].getD k 0 = y := by
  decide

/-- Row 2 of the position table: up the column from the bottom, then along the row to the right edge
(40_format_codec.md R116). -/
theorem formatPositions2_getD : ∀ k < 15, formatPositions2.getD k (0, 0) =
    if k < 7 then (((8 : Nat) : Int), -((1 + k : Nat) : Int)) else (-((15 - k : Nat) : Int), ((8 : Nat) : Int)) := by
  decide

/-- Settles O16: each bit is read at its row of the position table, negative coordinates wrapped. -/
theorem fmtGatherReadsTheSamples : Obligations.FmtGatherReadsTheSamples := by
  unfold Obligations.FmtGatherReadsTheSamples
  intro s hversion hside
  refine ⟨_, _, exec_fmtGather s hversion, fun hstable k hk => ⟨?_, ?_⟩⟩
  · obtain ⟨x, hx, y, hy, hposition, hcolumn, hrow⟩ := formatPositions1_getD k hk
    rw [gatherSample_bit s _ rfl hstable k hk, hposition, hcolumn, hrow, wrapCoordinate_natCast _ x (by omega),
      wrapCoordinate_natCast _ y (by omega)]
  · rw [gatherSample_bit s _ rfl hstable k hk, formatPositions2_getD k hk]
    split
    · rw [wrapCoordinate_natCast _ 8 (by omega), wrapCoordinate_neg _ _ (by omega) (by omega), Nat.sub_add_eq]
    · rw [wrapCoordinate_natCast _ 8 (by omega), wrapCoordinate_neg _ _ (by omega) (by omega),
        show s.side.toNat - (15 - k) = s.side.toNat - 15 + k by omega]

/-- The word of a recovered format, its fields side by side (40_format_codec.md R114). -/
theorem decodeWord_fields (d : BitVec 5) (m : Nat) :
    decodeWord d m = (0#18 ++ BitVec.ofNat 6 m ++ 0#3 ++ d : BitVec 32) := by
  apply BitVec.eq_of_toNat_eq
  rw [decodeWord, zext32, BitVec.toNat_setWidth, toNat_append_eq_add, toNat_append_eq_add, toNat_append_eq_add,
    toNat_append_eq_add, toNat_append_eq_add]
  simp
  omega

/-- A recovered format is written to FMT_RESULT and, with a version configured, applied (40_format_codec.md R114,
R118). -/
theorem finish_formatOutcome_ok (d : BitVec 5) (m : Nat) (s : State) :
    ∃ r : Word, r = (0#18 ++ BitVec.ofNat 6 m ++ 0#3 ++ d : BitVec 32) ∧
      (s.vValid = false →
        finish (formatOutcome (.ok (d, m)) s) = .next { s with fmtResult := r, busy := false }) ∧
      (s.vValid = true → finish (formatOutcome (.ok (d, m)) s) = .next { s with
        fmtResult := r, ecl := d.extractLsb' 3 2, maskId := d.extractLsb' 0 3, fValid := true, rValid := false,
        rawLen := 0#15, rawPos := 0#15, mValid := false, msgLen := 0#12, msgPos := 0#15, rsNcorr := 0#16,
        sstate := .idle, segMode := 0#4, segCount := 0#16, outLen := 0#14, busy := false }) := by
  refine ⟨decodeWord d m, decodeWord_fields d m, fun hversion => ?_, fun hversion => ?_⟩
  · rw [formatOutcome, recordFormat, if_neg (by simp [hversion])]
    rfl
  · rw [formatOutcome, recordFormat_of_version d m s hversion]
    rfl

/-- Settles O17: the value of the sample is the one codeword within the budget. -/
theorem fmtDecode1Corrects : Obligations.FmtDecode1Corrects := by
  unfold Obligations.FmtDecode1Corrects
  intro s d e hflips hsample
  have hdist : dist1 s.fmtS1 d = popcount e := by rw [hsample, dist1_flipped]
  rw [exec_fmtDecode1, nearest_dist1_of_le _ d (hdist ▸ hflips), hdist]
  exact finish_formatOutcome_ok d (popcount e) s

/-- Settles O19: the value of the samples is the one codeword within the budget in sum. -/
theorem fmtDecode2Corrects : Obligations.FmtDecode2Corrects := by
  unfold Obligations.FmtDecode2Corrects
  intro s d e1 e2 hflips hfirst hsecond
  have hdist : dist2 s.fmtS1 s.fmtS2 d = popcount e1 + popcount e2 := by
    rw [hfirst, hsecond, dist2_eq, dist1_flipped, dist1_flipped]
  rw [exec_fmtDecode2, nearest_dist2_of_le _ _ d (hdist ▸ hflips), hdist]
  exact finish_formatOutcome_ok d (popcount e1 + popcount e2) s

/-- What a search over its budget makes of a command (40_format_codec.md R113). -/
theorem finish_formatOutcome_over_budget (dist : BitVec 5 → Nat) (budget m : Nat) (tie : Bool) (s : State)
    (hm : m < 64) (hover : budget < m) (hleast : ∀ d, m ≤ dist d) (hattained : ∃ d, dist d = m)
    (htie : tie = true ↔ ∃ d1 d2, d1 ≠ d2 ∧ dist d1 = m ∧ dist d2 = m) :
    finish (formatOutcome (nearest dist budget) s) = .next { s with
      err := true, errCode := .formatCorrupt, errInfo := BitVec.ofNat 32 ((if tie then 0x300 else 0x200) + m),
      busy := false } := by
  rw [nearest_over_budget dist budget m tie hover hleast hattained htie, formatCorrupt_over tie m hm]
  rfl

theorem exec_fmtDecode2_over_budget (s : State) (m : Nat) (tie : Bool) (hover : 6 < m)
    (hleast : ∀ d, m ≤ dist2 s.fmtS1 s.fmtS2 d) (hattained : ∃ d, dist2 s.fmtS1 s.fmtS2 d = m)
    (htie : tie = true ↔ ∃ d1 d2, d1 ≠ d2 ∧ dist2 s.fmtS1 s.fmtS2 d1 = m ∧ dist2 s.fmtS1 s.fmtS2 d2 = m) :
    exec .fmtDecode2 s = .next { s with
      err := true, errCode := .formatCorrupt, errInfo := BitVec.ofNat 32 ((if tie then 0x300 else 0x200) + m),
      busy := false } := by
  have hm : m < 64 := by
    obtain ⟨d, rfl⟩ := hattained
    have h1 := popcount_le (fmtCw d ^^^ s.fmtS1)
    have h2 := popcount_le (fmtCw d ^^^ s.fmtS2)
    simp only [dist2]
    omega
  rw [exec_fmtDecode2]
  exact finish_formatOutcome_over_budget _ _ m tie s hm hover hleast hattained htie

/-- Between two codewords no value is nearer than the two themselves. -/
theorem dist2_codewords (d1 d2 d : BitVec 5) :
    popcount (fmtCw d1 ^^^ fmtCw d2) ≤ dist2 (fmtCw d1) (fmtCw d2) d ∧
    dist2 (fmtCw d1) (fmtCw d2) d1 = popcount (fmtCw d1 ^^^ fmtCw d2) ∧
    dist2 (fmtCw d1) (fmtCw d2) d2 = popcount (fmtCw d1 ^^^ fmtCw d2) := by
  refine ⟨?_, by rw [dist2_eq, dist1_fmtCw, dist1, Nat.zero_add],
    by rw [dist2_eq, dist1_fmtCw, dist1, Nat.add_zero, BitVec.xor_comm]⟩
  rw [← xor_xor_xor_cancel _ _ (fmtCw d), dist2, BitVec.xor_comm (fmtCw d), BitVec.xor_comm (fmtCw d)]
  exact popcount_xor_le _ _

/-- Settles O20: over the budget the search refuses; two codewords are at least seven bits apart and tied. -/
theorem fmtDecode2Refuses : Obligations.FmtDecode2Refuses := by
  unfold Obligations.FmtDecode2Refuses
  refine ⟨fun s dist m tie hdist hover hleast hattained htie => ?_, fun s d1 d2 hne hfirst hsecond => ?_⟩
  · obtain rfl : dist = dist2 s.fmtS1 s.fmtS2 := funext hdist
    exact exec_fmtDecode2_over_budget s m tie hover hleast hattained htie
  · have hapart := seven_le_dist1_add (fmtCw d2) d2 d1 hne
    rw [dist1_fmtCw, Nat.zero_add, dist1] at hapart
    obtain ⟨-, hd1, hd2⟩ := dist2_codewords d1 d2 0#5
    rw [← hfirst, ← hsecond] at hapart hd1 hd2 ⊢
    have hleast : ∀ d, popcount (s.fmtS1 ^^^ s.fmtS2) ≤ dist2 s.fmtS1 s.fmtS2 d := fun d => by
      rw [hfirst, hsecond]
      exact (dist2_codewords d1 d2 d).1
    exact exec_fmtDecode2_over_budget s _ true hapart hleast ⟨d1, hd1⟩ (iff_of_true rfl ⟨d1, d2, hne, hd1, hd2⟩)

end Sys2Proof.Machine
end

section
/-! SUPPORT. No word is far from the code, and one more than three bits away has two nearest codewords
(40_format_codec.md R119 b and d). At distance 5 the second moment of the distances says so; at distance 4 the codewords
of even weight meet four places in every possible way. -/

namespace Sys2Proof.Machine

/-! The complement of a codeword is a codeword. -/

theorem fmtCw_not (d : BitVec 5) : fmtCw (~~~d) = ~~~fmtCw d := by
  have hones : fmtCw (BitVec.allOnes 5) = BitVec.allOnes 15 := by decide
  rw [← BitVec.xor_allOnes, fmtCw_xor, hones, BitVec.xor_allOnes]

theorem support_not (w : BitVec 15) : support (~~~w) = Finset.range 15 \ support w := by
  ext i
  by_cases hi : i < 15 <;> simp [hi]

theorem popcount_not (w : BitVec 15) : popcount w + popcount (~~~w) = 15 := by
  rw [popcount_eq_card, popcount_eq_card, support_not, Nat.add_comm]
  exact Finset.card_sdiff_add_card_eq_card (Finset.filter_subset _ _)

theorem dist1_not (w : BitVec 15) (d : BitVec 5) : dist1 w d + dist1 w (~~~d) = 15 := by
  rw [dist1, dist1, fmtCw_not, ← BitVec.not_xor_left, popcount_not]

/-! Distance 5: the second moment. -/

/-- A bit as a sign. -/
def sign (b : Bool) : ℤ := if b then -1 else 1

theorem sign_xor (a b : Bool) : sign (a ^^ b) = sign a * sign b := by
  cases a <;> cases b <;> rfl

theorem sign_mul_self (b : Bool) : sign b * sign b = 1 := by
  cases b <;> rfl

/-- The signs of a word add up to the zeros less the ones. -/
theorem sum_sign (w : BitVec 15) : ∑ i ∈ Finset.range 15, sign (w.getLsbD i) = 15 - 2 * (popcount w : ℤ) := by
  have hterm : ∀ b : Bool, sign b = 1 - 2 * (if b then 1 else 0) := by decide
  simp only [hterm, Finset.sum_sub_distrib, ← Finset.mul_sum, popcount_eq_card, support, Finset.card_filter]
  simp

/-- Some codeword tells two places apart. -/
theorem exists_codeword_separating : ∀ i < 15, ∀ j < 15, i ≠ j →
    ∃ b : BitVec 5, ((fmtCw b).getLsbD i ^^ (fmtCw b).getLsbD j) = true := by decide +kernel

/-- Two places agree in as many codewords as they differ in. -/
theorem sum_sign_mul_sign (i j : Nat) (hi : i < 15) (hj : j < 15) :
    ∑ d : BitVec 5, sign ((fmtCw d).getLsbD i) * sign ((fmtCw d).getLsbD j) = if i = j then 32 else 0 := by
  split
  next heq =>
    subst heq
    simp only [sign_mul_self, Finset.sum_const, Finset.card_univ]
    decide
  next hne =>
    obtain ⟨b, hb⟩ := exists_codeword_separating i hi j hj hne
    have hsigns : sign ((fmtCw b).getLsbD i) * sign ((fmtCw b).getLsbD j) = -1 := by
      rw [← sign_xor, hb]
      rfl
    refine Finset.sum_involution (fun d _ => d ^^^ b) (fun d _ => ?_) (fun d _ _ hfix => ?_) (by simp) (fun d _ => ?_)
    · simp only [fmtCw_xor, BitVec.getLsbD_xor, sign_xor]
      linear_combination (sign ((fmtCw d).getLsbD i) * sign ((fmtCw d).getLsbD j)) * hsigns
    · have hzero : b = 0#5 := (BitVec.xor_right_inj d).mp (hfix.trans BitVec.xor_zero.symm)
      rw [hzero, fmtCw_zero] at hb
      simp at hb
    · rw [BitVec.xor_assoc, BitVec.xor_self, BitVec.xor_zero]

/-- The second moment of the distances is the same for every word. -/
theorem sum_sq_dist1 (w : BitVec 15) : ∑ d : BitVec 5, (15 - 2 * (dist1 w d : ℤ)) ^ 2 = 480 := by
  have hexpand : ∀ d : BitVec 5, (15 - 2 * (dist1 w d : ℤ)) ^ 2 =
      ∑ i ∈ Finset.range 15, ∑ j ∈ Finset.range 15, sign (w.getLsbD i) * sign (w.getLsbD j) *
        (sign ((fmtCw d).getLsbD i) * sign ((fmtCw d).getLsbD j)) := fun d => by
    rw [dist1, ← sum_sign, sq, Finset.sum_mul_sum]
    refine Finset.sum_congr rfl fun i _ => Finset.sum_congr rfl fun j _ => ?_
    rw [BitVec.getLsbD_xor, BitVec.getLsbD_xor, sign_xor, sign_xor]
    ring
  calc ∑ d : BitVec 5, (15 - 2 * (dist1 w d : ℤ)) ^ 2
      = ∑ i ∈ Finset.range 15, ∑ j ∈ Finset.range 15, sign (w.getLsbD i) * sign (w.getLsbD j) *
          ∑ d : BitVec 5, sign ((fmtCw d).getLsbD i) * sign ((fmtCw d).getLsbD j) := by
        simp only [hexpand, Finset.mul_sum]
        rw [Finset.sum_comm]
        exact Finset.sum_congr rfl fun i _ => Finset.sum_comm
    _ = ∑ i ∈ Finset.range 15, ∑ j ∈ Finset.range 15,
          sign (w.getLsbD i) * sign (w.getLsbD j) * if i = j then 32 else 0 :=
        Finset.sum_congr rfl fun i hi => Finset.sum_congr rfl fun j hj => by
          rw [sum_sign_mul_sign i j (Finset.mem_range.mp hi) (Finset.mem_range.mp hj)]
    _ = 480 := by
        simp only [mul_ite, mul_zero, Finset.sum_ite_eq, sign_mul_self, one_mul]
        decide

/-- A word with no codeword nearer than 5 has two at distance 5. -/
theorem exists_two_at_five (w : BitVec 15) (hfar : ∀ d, 5 ≤ dist1 w d) :
    ∃ d1 d2, d1 ≠ d2 ∧ dist1 w d1 = 5 ∧ dist1 w d2 = 5 := by
  have hbound : ∀ d : BitVec 5, (15 - 2 * (dist1 w d : ℤ)) ^ 2 ≤
      9 + ((if dist1 w d = 5 then 16 else 0) + if dist1 w (~~~d) = 5 then 16 else 0) := fun d => by
    have hnot := dist1_not w d
    have hd := hfar d
    have hcomplement := hfar (~~~d)
    have hrange : dist1 w d ≤ 10 := by omega
    have hother : dist1 w (~~~d) = 15 - dist1 w d := by omega
    rw [hother]
    interval_cases dist1 w d <;> decide
  have hflip : ∑ d : BitVec 5, (if dist1 w (~~~d) = 5 then 16 else 0 : ℤ) = ∑ d, if dist1 w d = 5 then 16 else 0 :=
    Fintype.sum_bijective (~~~·) (Function.Involutive.bijective fun _ => BitVec.not_not) _ _ fun _ => rfl
  have hcount : (480 : ℤ) ≤ 288 + 2 * (16 * (Finset.univ.filter fun d => dist1 w d = 5).card) := by
    rw [← sum_sq_dist1 w]
    refine (Finset.sum_le_sum fun d _ => hbound d).trans_eq ?_
    rw [Finset.sum_add_distrib, Finset.sum_add_distrib, hflip, ← Finset.sum_filter, Finset.sum_const, Finset.sum_const,
      Finset.card_univ, show Fintype.card (BitVec 5) = 32 by decide, nsmul_eq_mul, nsmul_eq_mul]
    ring
  have htwo : 1 < (Finset.univ.filter fun d => dist1 w d = 5).card := by omega
  obtain ⟨d1, h1, d2, h2, hne⟩ := Finset.one_lt_card.mp htwo
  exact ⟨d1, d2, hne, (Finset.mem_filter.mp h1).2, (Finset.mem_filter.mp h2).2⟩

/-! Distance 4: the codewords of even weight. -/

/-- The parity of the weight of a value's codeword. -/
def weightParity (d : BitVec 5) : Bool := d.getLsbD 0 ^^ d.getLsbD 1 ^^ d.getLsbD 4

theorem weightParity_xor (a b : BitVec 5) : weightParity (a ^^^ b) = (weightParity a ^^ weightParity b) := by
  simp only [weightParity, BitVec.getLsbD_xor, Bool.xor_assoc, Bool.xor_left_comm]

/-- The values whose codewords have even weight. -/
def evenValues : Finset (BitVec 5) := {d | weightParity d = false}

theorem card_evenValues : evenValues.card = 16 := by decide

theorem xor_mem_evenValues (a b : BitVec 5) (ha : a ∈ evenValues) (hb : b ∈ evenValues) : a ^^^ b ∈ evenValues := by
  simp only [evenValues, Finset.mem_filter, Finset.mem_univ, true_and] at *
  rw [weightParity_xor, ha, hb]
  rfl

theorem popcount_fmtCw_of_even : ∀ d ∈ evenValues, d ≠ 0#5 → popcount (fmtCw d) = 8 := by decide +kernel

/-- Four places that no codeword of weight 7 covers meet the codewords of even weight in all 16 ways, so some codeword
of weight 8 covers them. -/
theorem exists_even_codeword_covering (e : BitVec 15) (hfour : popcount e = 4)
    (hfar : ∀ d, 4 ≤ popcount (fmtCw d ^^^ e)) :
    ∃ d ≠ 0#5, popcount (fmtCw d ^^^ e) = 4 := by
  have hinj : Set.InjOn (fun d => support (fmtCw d) ∩ support e) evenValues := fun a ha b hb heq => by
    by_contra hne
    have hweight := popcount_fmtCw_of_even _ (xor_mem_evenValues a b ha hb) fun h => hne (BitVec.xor_eq_zero_iff.mp h)
    have hcover : support e ⊆ support (fmtCw (~~~(a ^^^ b))) := fun i hi => by
      have hsame : i ∈ support (fmtCw a) ↔ i ∈ support (fmtCw b) := by simpa [hi] using Finset.ext_iff.mp heq i
      rw [fmtCw_not, support_not, fmtCw_xor, support_xor, Finset.mem_sdiff, Finset.mem_symmDiff, hsame]
      exact ⟨Finset.filter_subset _ _ hi, by simp⟩
    have hrest := popcount_xor_of_subset _ _ hcover
    have hnear := hfar (~~~(a ^^^ b))
    have hnot := popcount_not (fmtCw (a ^^^ b))
    rw [← fmtCw_not] at hnot
    omega
  have hsurj := Finset.surjOn_of_injOn_of_card_le (s := evenValues) (t := (support e).powerset) _
    (fun d _ => by simp) hinj (by rw [Finset.card_powerset, ← popcount_eq_card, hfour, card_evenValues]; rfl)
  obtain ⟨d, heven, hd⟩ := hsurj (Finset.mem_coe.mpr (Finset.mem_powerset_self (support e)))
  have hcover : support e ⊆ support (fmtCw d) := Finset.inter_eq_right.mp hd
  have hrest := popcount_xor_of_subset _ _ hcover
  have hne : d ≠ 0#5 := by
    rintro rfl
    rw [fmtCw_zero, (popcount_eq_zero_iff _).mpr rfl] at hrest
    omega
  have hweight := popcount_fmtCw_of_even d heven hne
  exact ⟨d, hne, by omega⟩

/-- A word with no codeword nearer than 4 and one at distance 4 has two. -/
theorem exists_two_at_four (w : BitVec 15) (d : BitVec 5) (hfour : dist1 w d = 4) (hfar : ∀ d, 4 ≤ dist1 w d) :
    ∃ d' ≠ d, dist1 w d' = 4 := by
  have hshift : ∀ c, popcount (fmtCw c ^^^ (fmtCw d ^^^ w)) = dist1 w (c ^^^ d) := fun c => by
    rw [dist1, fmtCw_xor, BitVec.xor_assoc]
  obtain ⟨c, hne, hc⟩ := exists_even_codeword_covering (fmtCw d ^^^ w) hfour fun c => by
    rw [hshift]
    exact hfar _
  have hother : c ^^^ d ≠ d := fun h => hne ((BitVec.xor_left_inj d).mp (h.trans BitVec.zero_xor.symm))
  exact ⟨c ^^^ d, hother, (hshift c).symm.trans hc⟩

/-- Settles O18: the nearest distance is 4 or 5, and either way two codewords attain it. -/
theorem fmtDecode1Refuses : Obligations.FmtDecode1Refuses := by
  unfold Obligations.FmtDecode1Refuses
  intro s hfar
  obtain ⟨m, hm, hleast, d1, d2, hne, h1, h2⟩ : ∃ m, (m = 4 ∨ m = 5) ∧ (∀ d, m ≤ dist1 s.fmtS1 d) ∧
      ∃ d1 d2, d1 ≠ d2 ∧ dist1 s.fmtS1 d1 = m ∧ dist1 s.fmtS1 d2 = m := by
    by_cases hfour : ∃ d, dist1 s.fmtS1 d = 4
    · obtain ⟨d, hd⟩ := hfour
      obtain ⟨d', hne, hd'⟩ := exists_two_at_four _ d hd hfar
      exact ⟨4, Or.inl rfl, hfar, d', d, hne, hd', hd⟩
    · have hfive : ∀ d, 5 ≤ dist1 s.fmtS1 d := fun d =>
        lt_of_le_of_ne (hfar d) fun h => hfour ⟨d, h.symm⟩
      exact ⟨5, Or.inr rfl, hfive, exists_two_at_five _ hfive⟩
  refine ⟨m, hm, ⟨d1, h1⟩, hleast, ?_⟩
  rw [exec_fmtDecode1]
  exact finish_formatOutcome_over_budget _ _ m true s (by omega) (show 3 < m by omega) hleast ⟨d1, h1⟩
    (iff_of_true rfl ⟨d1, d2, hne, h1, h2⟩)

end Sys2Proof.Machine
end

section
/-! SUPPORT. Configuration and mask table of unit ZZR (41_zigzag_reader.md R130-R132, R137, R138): the state each
command leaves, in range and out of range. -/

namespace Sys2Proof.Machine

theorem exec_setVersion_in_range (ver : BitVec 6) (s : State) (h1 : 1 ≤ ver.toNat) (h40 : ver.toNat ≤ 40) :
    exec (.setVersion ver) s = .next (complete (configureVersion ver.toNat s)) := by
  change finish (setVersionBody ver s) = _
  rw [setVersionBody, if_neg (by simp only [Config.versionMin, Config.versionMax]; omega)]
  rfl

theorem exec_setVersion_out_of_range (ver : BitVec 6) (s : State) (h : ver.toNat = 0 ∨ 40 < ver.toNat) :
    exec (.setVersion ver) s = .next (raiseError (illegalVersion (zext32 ver)) s) := by
  change finish (setVersionBody ver s) = _
  rw [setVersionBody, if_pos (by simp only [Config.versionMin, Config.versionMax]; omega)]
  rfl

/-- Settles O10: both sides of the range check, with the clearing cascade written out. -/
theorem setVersionConfigures : Obligations.SetVersionConfigures := by
  unfold Obligations.SetVersionConfigures
  intro ver s
  refine ⟨fun ⟨h1, h40⟩ => ?_, exec_setVersion_out_of_range ver s⟩
  have hver : BitVec.ofNat 6 ver.toNat = ver := by simp
  rw [exec_setVersion_in_range ver s h1 h40, configureVersion, hver]
  rfl

/-- The side of v modules passes the check of R131 and names v. -/
theorem exec_setSide_of_version (v : Nat) (s : State) (h1 : 1 ≤ v) (h40 : v ≤ 40) :
    exec (.setSide (BitVec.ofNat 8 (17 + 4 * v))) s = .next (complete (configureVersion v s)) := by
  have hside : (BitVec.ofNat 8 (17 + 4 * v)).toNat = 17 + 4 * v := Nat.mod_eq_of_lt (by omega)
  change finish (setSideBody _ s) = _
  rw [setSideBody, hside, if_neg (by omega), show (17 + 4 * v - 17) / 4 = v by omega]
  rfl

theorem exec_setSide_of_no_version (side : BitVec 8) (s : State)
    (h : ∀ v, 1 ≤ v → v ≤ 40 → side.toNat ≠ 17 + 4 * v) :
    exec (.setSide side) s = .next (raiseError (illegalVersion (zext32 side)) s) := by
  have hcheck : side.toNat < 21 ∨ 177 < side.toNat ∨ (side.toNat - 17) % 4 ≠ 0 := by
    by_contra hpass
    exact h ((side.toNat - 17) / 4) (by omega) (by omega) (by omega)
  change finish (setSideBody side s) = _
  rw [setSideBody, if_pos hcheck]
  rfl

/-- Settles O11: SET_SIDE and SET_VERSION configure the same version, or the side is no version's. -/
theorem setSideIsSetVersion : Obligations.SetSideIsSetVersion := by
  unfold Obligations.SetSideIsSetVersion
  refine ⟨fun v s h1 h40 => ?_, exec_setSide_of_no_version⟩
  have hver : (BitVec.ofNat 6 v).toNat = v := Nat.mod_eq_of_lt (by omega)
  rw [exec_setSide_of_version v s h1 h40, exec_setVersion_in_range _ s (by omega) (by omega), hver]
  exact ⟨rfl, _, rfl, rfl, hver, Nat.mod_eq_of_lt (by simp only [sideOf]; omega), rfl⟩

theorem exec_setFormat (fv : BitVec 5) (s : State) (hversion : s.vValid = true) :
    exec (.setFormat fv) s = .next (complete (applyFormat fv s)) := by
  change finish (require s.vValid s (setFormatBody fv s)) = _
  rw [require, if_pos hversion]
  rfl

/-- Settles O12: apply_format with its cascade written out, after which F_VALID is the last valid bit set. -/
theorem setFormatApplies : Obligations.SetFormatApplies := by
  unfold Obligations.SetFormatApplies
  intro fv s hversion
  exact ⟨_, exec_setFormat fv s hversion, rfl, rfl⟩

theorem exec_maskEval (mid : BitVec 3) (row col : BitVec 8) (s : State) :
    exec (.maskEval mid row col) s = .next { s with
      rdata := zext32 (BitVec.ofBool (maskBit mid row.toNat col.toNat)), busy := false } := by
  rfl

theorem zext32_ofBool_eq_one_iff (b : Bool) : zext32 (BitVec.ofBool b) = 1#32 ↔ b = true := by
  cases b <;> decide

/-- Settles O21: RDATA is 1 exactly when the mask bit is, and for each mask the bit is its formula. -/
theorem maskEvalFormulas : Obligations.MaskEvalFormulas := by
  unfold Obligations.MaskEvalFormulas
  rintro mid row col s i j rfl rfl
  refine ⟨_, exec_maskEval mid row col s, ?_, ?_⟩
  · cases hbit : maskBit mid row.toNat col.toNat
    · exact Or.inl rfl
    · exact Or.inr rfl
  · rw [zext32_ofBool_eq_one_iff]
    refine ⟨?_, ?_, ?_, ?_, ?_, ?_, ?_, ?_⟩
    all_goals
      rintro rfl
      exact beq_iff_eq

end Sys2Proof.Machine
end

section
/-! SUPPORT. The reserved zones as rows of R140's table and DZ_QUERY (41_zigzag_reader.md R140, R143). -/

namespace Sys2Proof.Machine

/-- A zone as a row of the table of R140: its kind number, then its corners. -/
def zoneRow (z : Zone) : Nat × Nat × Nat × Nat × Nat := ((zoneCode z.kind).toNat, z.x0, z.y0, z.x1, z.y1)

theorem versionZones_rows (v side : Nat) :
    (versionZones v side).map zoneRow =
      if 7 ≤ v then [(7, side - 11, 0, side - 9, 5), (8, 0, side - 11, 5, side - 9)] else [] := by
  unfold versionZones
  split <;> rfl

theorem zonesOverlap_eq_decide (a b : Zone) :
    zonesOverlap a b = decide (a.x0 ≤ b.x1 ∧ b.x0 ≤ a.x1 ∧ a.y0 ≤ b.y1 ∧ b.y0 ≤ a.y1) := by
  simp [zonesOverlap, Bool.and_assoc]

/-- A square is kept by its row alone: the overlap with the corner zones is one of rows. -/
theorem alignZones_rows (v side : Nat) :
    (alignZones v side).map zoneRow =
      ((alignPos v).flatMap fun cy => (alignPos v).map fun cx => (9, cx - 2, cy - 2, cx + 2, cy + 2)).filter
        (fun (_, a0, b0, a1, b1) => ((cornerZones side).map zoneRow).all fun (_, x0, y0, x1, y1) =>
          !(decide (a0 ≤ x1 ∧ x0 ≤ a1 ∧ b0 ≤ y1 ∧ y0 ≤ b1))) := by
  have hsquares : ((alignPos v).flatMap fun cy => (alignPos v).map fun cx => (9, cx - 2, cy - 2, cx + 2, cy + 2)) =
      ((alignPos v).flatMap fun cy => (alignPos v).map fun cx => alignSquare cx cy).map zoneRow := by
    rw [List.map_flatMap]
    simp only [List.map_map]
    rfl
  rw [hsquares, List.filter_map, alignZones]
  refine congrArg (List.map zoneRow) (List.filter_congr fun z _ => ?_)
  rw [List.not_any_eq_all_not]
  refine Eq.trans ?_ List.all_map.symm
  refine congrArg (cornerZones side).all (funext fun corner => ?_)
  rw [zonesOverlap_eq_decide]
  rfl

theorem inZone_eq_true_iff (x y : Nat) (z : Zone) :
    inZone x y z = true ↔ z.x0 ≤ x ∧ x ≤ z.x1 ∧ z.y0 ≤ y ∧ y ≤ z.y1 := by
  simp [inZone, and_assoc]

theorem inZone_eq_false_iff (x y : Nat) (z : Zone) :
    inZone x y z = false ↔ ¬ (z.x0 ≤ x ∧ x ≤ z.x1 ∧ z.y0 ≤ y ∧ y ≤ z.y1) := by
  rw [← inZone_eq_true_iff, Bool.not_eq_true]

theorem zoneWord_of_kind (kind : ZoneKind) :
    zext32 (zoneCode kind ++ 0#3 ++ 1#1) = BitVec.ofNat 32 (16 * (zoneCode kind).toNat + 1) := by
  cases kind <;> rfl

/-- RDATA after DZ_QUERY names the first zone that holds the module, or none does (41_zigzag_reader.md R143). -/
theorem zoneWord_cases (v x y : Nat) :
    (zoneWord v x y = 0#32 ∧ ∀ z ∈ zonesOf v, inZone x y z = false) ∨
    ∃ before z after, zonesOf v = before ++ z :: after ∧ inZone x y z = true ∧
      (∀ z' ∈ before, inZone x y z' = false) ∧
      zoneWord v x y = BitVec.ofNat 32 (16 * (zoneCode z.kind).toNat + 1) := by
  unfold zoneWord
  cases hfind : (zonesOf v).find? (inZone x y) with
  | none => exact Or.inl ⟨rfl, by simpa using hfind⟩
  | some z =>
    obtain ⟨hz, before, after, hsplit, hbefore⟩ := List.find?_eq_some_iff_append.mp hfind
    exact Or.inr ⟨before, z, after, hsplit, hz, by simpa using hbefore, zoneWord_of_kind z.kind⟩

theorem exec_dzQuery_inside (x y : BitVec 8) (s : State) (hversion : s.vValid = true) (hx : x.toNat < s.side.toNat)
    (hy : y.toNat < s.side.toNat) :
    exec (.dzQuery x y) s = .next { s with
      rdata := zoneWord s.version.toNat x.toNat y.toNat, busy := false } := by
  change finish (require s.vValid s (dzQueryBody x y s)) = _
  rw [require, if_pos hversion, dzQueryBody, if_neg (by simp only [BitVec.le_def]; omega)]
  rfl

theorem exec_dzQuery_outside (x y : BitVec 8) (s : State) (hversion : s.vValid = true)
    (h : s.side.toNat ≤ x.toNat ∨ s.side.toNat ≤ y.toNat) :
    exec (.dzQuery x y) s = .next (raiseError (illegalCommand s) s) := by
  change finish (require s.vValid s (dzQueryBody x y s)) = _
  rw [require, if_pos hversion, dzQueryBody, if_pos (show s.side ≤ x ∨ s.side ≤ y from h)]
  rfl

/-- Settles O22: the zones part by part, then the search for the first that holds the module. -/
theorem dzQueryFirstZone : Obligations.DzQueryFirstZone := by
  unfold Obligations.DzQueryFirstZone
  rintro v side fixed squares zones - - hside hfixed rfl hzones
  have hcorner : (cornerZones side).map zoneRow = fixed := hfixed.symm
  have hrows : (zonesOf v).map zoneRow = zones := by
    rw [hzones, ← hcorner, ← versionZones_rows, ← alignZones_rows, zonesOf, hside]
    simp only [List.map_append]
    rfl
  refine ⟨hrows, fun x y s hversion hv hs => ⟨fun ⟨hx, hy⟩ => ?_, fun hout => ?_⟩⟩
  · refine ⟨_, exec_dzQuery_inside x y s hversion (hs ▸ hx) (hs ▸ hy), ?_⟩
    rw [hv, ← hrows]
    rcases zoneWord_cases v x.toNat y.toNat with ⟨hword, hnone⟩ | ⟨before, z, after, hsplit, hz, hbefore, hword⟩
    · refine Or.inl ⟨hword, List.forall_mem_map.mpr fun z hz => ?_⟩
      exact (inZone_eq_false_iff _ _ z).mp (hnone z hz)
    · refine Or.inr ⟨before.map zoneRow, _, _, _, _, _, after.map zoneRow, by rw [hsplit, List.map_append]; rfl,
        (inZone_eq_true_iff _ _ z).mp hz, List.forall_mem_map.mpr fun z' hz' => ?_, hword⟩
      exact (inZone_eq_false_iff _ _ z').mp (hbefore z' hz')
  · exact exec_dzQuery_outside x y s hversion (hs ▸ hout)

end Sys2Proof.Machine
end

section
/-! SUPPORT. The zig-zag order as one sequence (41_zigzag_reader.md R141): the loop pair by pair, the modules it visits,
and ZZ_TRAVERSE (R142). -/

namespace Sys2Proof.Machine

/-- The loop variable of R141 when the pair with this number starts, the timing column not yet stepped over. -/
def pairStart (side pair : Nat) : Nat := if side - 1 - 2 * pair < 6 then side - 2 - 2 * pair else side - 1 - 2 * pair

/-- The modules of one pair of columns, reserved or not. -/
def pairModules (side x : Nat) (up : Bool) : List (Nat × Nat) :=
  (List.range side).flatMap fun i => [(x, if up then side - 1 - i else i), (x - 1, if up then side - 1 - i else i)]

theorem pairOrder_eq_filter (zones : List Zone) (side x : Nat) (up : Bool) :
    pairOrder zones side x up = (pairModules side x up).filter fun p => !reservedIn zones p.1 p.2 := by
  rw [pairModules, List.filter_flatMap]
  rfl

/-- The loop from the k-th pair on visits the pairs k, k + 1, …, the direction turned after each. -/
theorem orderFrom_pairs (zones : List Zone) (side k m fuel : Nat) (hodd : side % 2 = 1) (hside : 7 < side)
    (hpairs : 2 * (k + m) = side - 1) (hfuel : m ≤ fuel) :
    orderFrom zones side fuel (pairStart side k) (k % 2 == 0) =
      (List.range' k m).flatMap fun pair =>
        pairOrder zones side (skipTiming (pairStart side pair)) (pair % 2 == 0) := by
  induction m generalizing k fuel with
  | zero =>
    have hend : pairStart side k = 0 := by
      unfold pairStart
      split <;> omega
    rw [hend]
    cases fuel <;> rfl
  | succ m ih =>
    obtain ⟨fuel, rfl⟩ : ∃ f, fuel = f + 1 := ⟨fuel - 1, by omega⟩
    have hrun : ¬ pairStart side k < 1 := by
      unfold pairStart
      split <;> omega
    have hnext : skipTiming (pairStart side k) - 2 = pairStart side (k + 1) := by
      unfold skipTiming pairStart
      split_ifs <;> omega
    have hturn : (!(k % 2 == 0)) = ((k + 1) % 2 == 0) := by
      rw [Bool.eq_iff_iff]
      simp
      omega
    rw [orderFrom, if_neg hrun, hnext, hturn, ih (k + 1) fuel (by omega) (by omega), List.range'_succ,
      List.flatMap_cons]

/-- order(v) as one sequence of modules with the reserved ones left out. -/
theorem order_eq_filter (v : Nat) (h1 : 1 ≤ v) :
    order v = ((List.range ((sideOf v - 1) / 2)).flatMap fun pair =>
        pairModules (sideOf v) (skipTiming (pairStart (sideOf v) pair)) (pair % 2 == 0)).filter
      fun p => !reservedIn (zonesOf v) p.1 p.2 := by
  have hside : sideOf v = 17 + 4 * v := rfl
  have hstart : pairStart (sideOf v) 0 = sideOf v - 1 := if_neg (by omega)
  have hloop := orderFrom_pairs (zonesOf v) (sideOf v) 0 ((sideOf v - 1) / 2) (sideOf v) (by omega) (by omega)
    (by omega) (by omega)
  rw [hstart] at hloop
  rw [order, List.filter_flatMap, List.range_eq_range']
  simp only [← pairOrder_eq_filter]
  exact hloop

theorem mem_pairModules (side x : Nat) (up : Bool) (p : Nat × Nat) :
    p ∈ pairModules side x up ↔ (p.1 = x ∨ p.1 = x - 1) ∧ p.2 < side := by
  obtain ⟨c, r⟩ := p
  simp only [pairModules, List.mem_flatMap, List.mem_range, List.mem_cons, Prod.mk.injEq, List.not_mem_nil, or_false]
  constructor
  · rintro ⟨i, hi, ⟨rfl, rfl⟩ | ⟨rfl, rfl⟩⟩
    · exact ⟨Or.inl rfl, by split <;> omega⟩
    · exact ⟨Or.inr rfl, by split <;> omega⟩
  · rintro ⟨hc, hr⟩
    have hrow : ∃ i < side, r = if up then side - 1 - i else i := by
      cases up
      · exact ⟨r, hr, rfl⟩
      · exact ⟨side - 1 - r, by omega, by simp only [if_true]; omega⟩
    obtain ⟨i, hi, hri⟩ := hrow
    exact ⟨i, hi, hc.imp (⟨·, hri⟩) (⟨·, hri⟩)⟩

/-- The pairs cover every column but the timing column. -/
theorem exists_pair_iff (side x : Nat) (hodd : side % 2 = 1) (hside : 7 < side) :
    (∃ pair < (side - 1) / 2, x = skipTiming (pairStart side pair) ∨ x = skipTiming (pairStart side pair) - 1) ↔
      x < side ∧ x ≠ 6 := by
  constructor
  · rintro ⟨pair, hpair, hx⟩
    unfold skipTiming pairStart at hx
    split_ifs at hx <;> omega
  · rintro ⟨hx, htiming⟩
    refine ⟨if x < 6 then (side - 2 - x) / 2 else (side - 1 - x) / 2, ?_, ?_⟩
    · split <;> omega
    · unfold skipTiming pairStart
      split_ifs <;> omega

theorem timing_column_reserved (v y : Nat) (hy : y < sideOf v) : reservedIn (zonesOf v) 6 y = true := by
  have hzone : (⟨.TV, 6, 0, 6, sideOf v - 1⟩ : Zone) ∈ zonesOf v := by simp [zonesOf, timingZones]
  have hin : 6 ≤ 6 ∧ 6 ≤ 6 ∧ 0 ≤ y ∧ y ≤ sideOf v - 1 := by omega
  exact List.any_eq_true.mpr ⟨_, hzone, (inZone_eq_true_iff _ _ _).mpr hin⟩

/-- The traversal visits the unreserved modules of the symbol. -/
theorem mem_order_iff (v : Nat) (h1 : 1 ≤ v) (p : Nat × Nat) :
    p ∈ order v ↔ p ∈ freeSet (zonesOf v) 0 (sideOf v) 0 (sideOf v) := by
  have hcolumns := exists_pair_iff (sideOf v) p.1 (by simp only [sideOf]; omega) (by simp only [sideOf]; omega)
  have htiming : p.1 = 6 → p.2 < sideOf v → reservedIn (zonesOf v) p.1 p.2 = true := fun hx hy =>
    hx ▸ timing_column_reserved v p.2 hy
  rw [order_eq_filter v h1, mem_freeSet]
  simp only [List.mem_filter, List.mem_flatMap, List.mem_range, mem_pairModules, Bool.not_eq_true']
  constructor
  · rintro ⟨⟨pair, hpair, hx, hy⟩, hfree⟩
    exact ⟨⟨⟨Nat.zero_le _, (hcolumns.mp ⟨pair, hpair, hx⟩).1⟩, Nat.zero_le _, hy⟩, hfree⟩
  · rintro ⟨⟨⟨-, hx⟩, -, hy⟩, hfree⟩
    have hne : p.1 ≠ 6 := fun h6 => by simp [htiming h6 hy] at hfree
    obtain ⟨pair, hpair, hcolumn⟩ := hcolumns.mpr ⟨hx, hne⟩
    exact ⟨⟨pair, hpair, hcolumn, hy⟩, hfree⟩

/-- The traversal is as long as the unreserved modules are many, and visits each: so it visits none twice. -/
theorem order_nodup (v : Nat) (h1 : 1 ≤ v) (h40 : v ≤ 40) : (order v).Nodup := by
  have hv : v ∈ List.range' 1 40 := by simp; omega
  have hvisited : (order v).toFinset = freeSet (zonesOf v) 0 (sideOf v) 0 (sideOf v) := by
    ext p
    rw [List.mem_toFinset, mem_order_iff v h1]
  have hcard : (order v).toFinset.card = (order v).length := by
    rw [hvisited, order_length v h1 h40, ← zonesOf_leave_capacity v hv,
      freeArea_eq_card _ (List.all_eq_true.mp (zonesOf_proper v hv))]
  exact Multiset.toFinset_card_eq_card_iff_nodup.mp hcard

/-- Settles O23: the loop as one sequence, the modules it meets, and the count that leaves no room for a repeat. -/
theorem traversalVisitsEachModuleOnce : Obligations.TraversalVisitsEachModuleOnce := by
  unfold Obligations.TraversalVisitsEachModuleOnce
  intro v side right row h1 h40 hside hright hrow
  obtain rfl : side = sideOf v := hside
  have hcolumn : ∀ pair, skipTiming (pairStart (sideOf v) pair) = right pair := by
    intro pair
    rw [hright]
    unfold skipTiming pairStart
    split_ifs <;> omega
  have hfree : (fun p : Nat × Nat => !reservedIn (zonesOf v) p.1 p.2) =
      fun p => (zonesOf v).all fun z => !inZone p.1 p.2 z := by
    funext p
    rw [reservedIn, List.not_any_eq_all_not]
  refine ⟨?_, order_nodup v h1 h40, fun x y => ?_⟩
  · rw [order_eq_filter v h1, hfree]
    simp only [pairModules, hcolumn, hrow, beq_iff_eq]
  · rw [mem_order_iff v h1, mem_freeSet]
    simp [reservedIn, and_assoc]

/-- The remainder bits by the versions of R171. -/
theorem remBits_eq (v : Nat) (h1 : 1 ≤ v) :
    remBits v = if v = 1 then 0 else if v ≤ 6 then 7 else if v ≤ 13 then 0 else if v ≤ 20 then 3
      else if v ≤ 27 then 4 else if v ≤ 34 then 3 else 0 := by
  unfold remBits
  split_ifs <;> omega

/-- Every layout fills TOTAL_CW: data and EC codewords of its blocks (42_rs_deinterleaver.md R170, R172). -/
theorem totalCw_eq_layout : ∀ v ∈ List.range' 1 40, ∀ l ∈ levels,
    totalCw v = dataCw (layoutOf v l) + blockCount (layoutOf v l) * (layoutOf v l).ec := by
  decide +kernel

theorem exec_zzTraverse (s : State) (hversion : s.vValid = true) (hformat : s.fValid = true) :
    exec .zzTraverse s = .next { s with
      rawBuf := bufStore s.rawBuf 0 (traversedBits s), rawLen := BitVec.ofNat 15 (order s.version.toNat).length,
      rawPos := 0#15, rValid := true, mValid := false, msgLen := 0#12, msgPos := 0#15, rsNcorr := 0#16,
      sstate := .idle, segMode := 0#4, segCount := 0#16, outLen := 0#14, busy := false } := by
  change finish (require (s.vValid && s.fValid) s (zzTraverseBody s)) = _
  rw [require, if_pos (by rw [hversion, hformat]; rfl)]
  rfl

/-- Settles O24: the traversal's length, the tables of versions and layouts, and RAW_LEN after a traversal. -/
theorem traversalFillsTheCapacity : Obligations.TraversalFillsTheCapacity := by
  unfold Obligations.TraversalFillsTheCapacity
  refine ⟨fun v h1 h40 => ⟨order_length v h1 h40, by rw [← remBits_eq v h1]; rfl, ?_⟩, ?_⟩
  · rintro l lay rfl
    exact totalCw_eq_layout v (by simp; omega) l (levels_complete l)
  · intro s hversion hformat h1 h40
    have hfit : capBitsOf s.version.toNat ≤ 29648 := capBitsOf_le _ s.version.isLt
    have hlen : (BitVec.ofNat 15 (order s.version.toNat).length).toNat = capBitsOf s.version.toNat := by
      rw [order_length _ h1 h40]
      exact Nat.mod_eq_of_lt (by omega)
    refine ⟨_, exec_zzTraverse s hversion hformat, ?_, hlen.trans_le hfit⟩
    rw [capBits, if_pos hversion]
    exact hlen

/-- Settles O25: the traversal stores its bits from entry 0 on, each the module and its mask bit. -/
theorem zzTraverseFillsRawbuf : Obligations.ZzTraverseFillsRawbuf := by
  unfold Obligations.ZzTraverseFillsRawbuf
  intro s hversion hformat
  have hlength : (traversedBits s).length = (order s.version.toNat).length := List.length_map ..
  refine ⟨_, exec_zzTraverse s hversion hformat, fun k hk => ?_, fun hstable k x y hplace => ?_⟩
  · exact bufRead_bufStore_elsewhere _ _ _ k (Or.inr (by omega))
  · obtain ⟨hk, hvisit⟩ := List.getElem?_eq_some_iff.mp hplace
    have hread := bufRead_bufStore_stored s.rawBuf 0 (traversedBits s) k (hlength ▸ hk)
    rw [Nat.zero_add] at hread
    rw [hread]
    simp only [traversedBits, List.getElem_map, hvisit, moduleRead_stable s x y hstable]

end Sys2Proof.Machine
end

section
/-! SUPPORT. The raw stream's commands (41_zigzag_reader.md R145, R146). -/

namespace Sys2Proof.Machine

theorem checkCount_legal (n : BitVec 6) (s : State) (body : Result) (h : n.toNat ≤ 32) :
    checkCount n s body = body := by
  rcases checkCount_cases n s body with ⟨-, heq⟩ | ⟨hover, -⟩
  · exact heq
  · omega

theorem exec_rawAppend (n : BitVec 6) (s : State) (hn : n.toNat ≤ 32) (hraw : s.rValid = true) :
    exec (.rawAppend n) s = finish (rawAppendBody n s) := by
  change finish (checkCount n s (require s.rValid s (rawAppendBody n s))) = _
  rw [checkCount_legal n s _ hn, hraw, require_true]

theorem exec_rawRead (n : BitVec 6) (s : State) (hn : n.toNat ≤ 32) (hraw : s.rValid = true) :
    exec (.rawRead n) s = finish (rawReadBody n s) := by
  change finish (checkCount n s (require s.rValid s (rawReadBody n s))) = _
  rw [checkCount_legal n s _ hn, hraw, require_true]

theorem exec_rawAppend_fits (n : BitVec 6) (s : State) (hn : n.toNat ≤ 32) (hraw : s.rValid = true)
    (hfit : s.rawLen.toNat + n.toNat ≤ 29648) :
    exec (.rawAppend n) s = .next { s with
      rawBuf := bufStore s.rawBuf s.rawLen.toNat (wdataBits s n.toNat),
      rawLen := BitVec.ofNat 15 (s.rawLen.toNat + n.toNat), mValid := false, msgLen := 0#12, msgPos := 0#15,
      rsNcorr := 0#16, sstate := .idle, segMode := 0#4, segCount := 0#16, outLen := 0#14, busy := false } := by
  rw [exec_rawAppend n s hn hraw, rawAppendBody, if_neg (show ¬ Config.rawbufBits < _ from Nat.not_lt.mpr hfit)]
  rfl

theorem exec_rawAppend_full (n : BitVec 6) (s : State) (hn : n.toNat ≤ 32) (hraw : s.rValid = true)
    (hover : 29648 < s.rawLen.toNat + n.toNat) :
    exec (.rawAppend n) s = .next (raiseError ⟨.bufferFull, zext32 s.rawLen⟩ s) := by
  rw [exec_rawAppend n s hn hraw, rawAppendBody, if_pos (show Config.rawbufBits < _ from hover), finish_failed]

/-- Settles O26: a store of WDATA's bits at RAW_LEN, or the error of the length check. -/
theorem rawAppendStores : Obligations.RawAppendStores := by
  unfold Obligations.RawAppendStores
  intro n s hn hraw
  have hlength : (wdataBits s n.toNat).length = n.toNat := by simp [wdataBits]
  refine ⟨fun hfit => ?_, exec_rawAppend_full n s hn hraw⟩
  refine ⟨_, exec_rawAppend_fits n s hn hraw hfit, fun k hk => ?_, fun k hk => ?_⟩
  · rw [bufRead_bufStore_stored _ _ _ k (hlength.symm ▸ hk)]
    simp [wdataBits]
  · exact bufRead_bufStore_elsewhere _ _ _ k (hlength.symm ▸ hk)

/-- A word of at most 32 bits, first bit highest, holds the last bit as bit 0 and zeros above the first. -/
theorem natWord_bitsNat_getLsbD (bits : List Bool) (h : bits.length ≤ 32) (k : Nat) :
    (natWord (bitsNat bits)).getLsbD k = bits.reverse.getD k false := by
  rw [natWord, BitVec.getLsbD_ofNat, testBit_bitsNat]
  by_cases hk : k < 32
  · simp [hk]
  · rw [List.getD_eq_default _ _ (by rw [List.length_reverse]; omega)]
    simp [hk]

theorem endOfData_raw : ∀ n : BitVec 6, endOfData .raw n.toNat = ⟨.endOfData, n.setWidth 32⟩ := by
  decide

theorem exec_rawRead_within (n : BitVec 6) (s : State) (hn : n.toNat ≤ 32) (hraw : s.rValid = true)
    (hfit : s.rawPos.toNat + n.toNat ≤ s.rawLen.toNat) :
    exec (.rawRead n) s = .next { s with
      rdata := natWord (bitsNat (rawBits s s.rawPos.toNat n.toNat)),
      rawPos := BitVec.ofNat 15 (s.rawPos.toNat + n.toNat), busy := false } := by
  rw [exec_rawRead n s hn hraw, rawReadBody, if_neg (Nat.not_lt.mpr hfit)]
  rfl

theorem exec_rawRead_past_end (n : BitVec 6) (s : State) (hn : n.toNat ≤ 32) (hraw : s.rValid = true)
    (hover : s.rawLen.toNat < s.rawPos.toNat + n.toNat) :
    exec (.rawRead n) s = .next (raiseError ⟨.endOfData, n.setWidth 32⟩ s) := by
  rw [exec_rawRead n s hn hraw, rawReadBody, if_pos hover, endOfData_raw, finish_failed]

/-- Settles O27: RDATA is the number of the next bits, or the length check raises. -/
theorem rawReadReturnsTheBits : Obligations.RawReadReturnsTheBits := by
  unfold Obligations.RawReadReturnsTheBits
  intro n s hn hraw
  have hlength : (rawBits s s.rawPos.toNat n.toNat).length = n.toNat := bufSlice_length _ _ _
  have hword := natWord_bitsNat_getLsbD (rawBits s s.rawPos.toNat n.toNat) (hlength.trans_le hn)
  refine ⟨fun hfit => ?_, exec_rawRead_past_end n s hn hraw⟩
  refine ⟨_, exec_rawRead_within n s hn hraw hfit, fun k hk => ?_, fun k hk => ?_⟩
  · have hplace : n.toNat - 1 - (n.toNat - 1 - k) = k := by omega
    rw [hword]
    simp [rawBits, bufSlice, hplace, show n.toNat - 1 - k < n.toNat by omega]
  · rw [hword, List.getD_eq_default _ _ (by rw [List.length_reverse, hlength]; exact hk)]

/-- A word with the low n bits of another and zeros above is its residue modulo 2^n. -/
theorem toNat_eq_mod_of_low_bits {w : Nat} (r d : BitVec w) (n : Nat) (hlow : ∀ k < n, r.getLsbD k = d.getLsbD k)
    (hhigh : ∀ k, n ≤ k → r.getLsbD k = false) : r.toNat = d.toNat % 2 ^ n := by
  refine Nat.eq_of_testBit_eq fun k => ?_
  rw [Nat.testBit_mod_two_pow, BitVec.testBit_toNat, BitVec.testBit_toNat]
  by_cases hk : k < n
  · simp [hk, hlow k hk]
  · simp [hk, hhigh k (by omega)]

/-- What RAW_APPEND leaves of the raw stream, for a command that reads it. -/
theorem exec_rawAppend_leaves (n : BitVec 6) (s : State) (hn : n.toNat ≤ 32) (hraw : s.rValid = true)
    (hfit : s.rawLen.toNat + n.toNat ≤ 29648) :
    ∃ t, exec (.rawAppend n) s = .next t ∧ t.rValid = true ∧ t.rawPos = s.rawPos ∧
      t.rawLen.toNat = s.rawLen.toNat + n.toNat ∧ t.err = s.err ∧
      ∀ k < n.toNat, bufRead t.rawBuf (s.rawLen.toNat + k) = s.wdata.getLsbD (n.toNat - 1 - k) := by
  obtain ⟨b, happend, hstored, -⟩ := (rawAppendStores n s hn hraw).1 hfit
  exact ⟨_, happend, hraw, rfl, Nat.mod_eq_of_lt (by omega), rfl, hstored⟩

/-- Settles O28: what RAW_APPEND stores is what RAW_READ finds from the old RAW_LEN on. -/
theorem appendedBitsReadBack : Obligations.AppendedBitsReadBack := by
  unfold Obligations.AppendedBitsReadBack
  intro n s hn hraw hcursor hfit
  obtain ⟨t, happend, hvalid, hpos, hlen, herr, hstored⟩ := exec_rawAppend_leaves n s hn hraw hfit
  have hstart : t.rawPos.toNat = s.rawLen.toNat := by rw [hpos, hcursor]
  obtain ⟨r, hread, hbits, hzeros⟩ := (rawReadReturnsTheBits n t hn hvalid).1 (by omega)
  have hlow : ∀ k < n.toNat, r.getLsbD k = s.wdata.getLsbD k := by
    intro k hk
    have hplace : n.toNat - 1 - (n.toNat - 1 - k) = k := by omega
    have hbit := hbits (n.toNat - 1 - k) (by omega)
    rwa [hstart, hstored _ (by omega), hplace] at hbit
  refine ⟨t, _, happend, hread, toNat_eq_mod_of_low_bits r s.wdata n.toNat hlow hzeros, ?_, hlen, herr⟩
  change BitVec.ofNat 15 (t.rawPos.toNat + n.toNat) = t.rawLen
  rw [hstart, ← hlen, BitVec.ofNat_toNat, BitVec.setWidth_eq]

end Sys2Proof.Machine
end

section
/-! SUPPORT. The corrected message (42_rs_deinterleaver.md R176, corner cases): which parts of the state its meaning
rests on, and that a body writes none of them, drops the message, or is RS_CORRECT itself. -/

namespace Sys2Proof.Machine

theorem messageIsCorrected_of_invalid (s : State) (h : s.mValid = false) : MessageIsCorrected s :=
  fun hvalid => by simp [h] at hvalid

/-- The parts that say what the message is and what it was decoded from. -/
def correctionParts : List Part := [.version, .format, .rawLen, .rawBuf, .message, .msgBuf]

theorem messageIsCorrected_of_same {s t : State} (h : MessageIsCorrected s)
    (hsame : ∀ p ∈ correctionParts, p.same s t) : MessageIsCorrected t := by
  simp only [correctionParts, List.forall_mem_cons, Part.same] at hsame
  obtain ⟨⟨hversion, -, hvValid⟩, ⟨hecl, -, -⟩, hlen, hraw, ⟨hvalid, -, hcount⟩, hmsg, -⟩ := hsame
  have hlayout : configuredLayout t = configuredLayout s := by simp only [configuredLayout, hversion, hecl]
  have hcap : capBits t = capBits s := by simp only [capBits, hvValid, hversion]
  have hpad : padValue t = padValue s := by simp only [padValue, rawBits, hraw, hversion]
  have hbytes : rawBytes t = rawBytes s := by
    have hbyte : rawByte t = rawByte s := funext fun k => by simp only [rawByte, rawBits, hraw]
    simp only [rawBytes, hbyte, hversion]
  intro hvalid'
  rw [hlen, hcap, hpad, hlayout, hbytes, hcount, hmsg]
  exact h (hvalid ▸ hvalid')

theorem Writes.messageIsCorrected {parts : List Part} {s t : State} (hwrites : Writes parts s t)
    (h : MessageIsCorrected s) (hparts : ∀ p ∈ correctionParts, p ∉ parts) : MessageIsCorrected t :=
  messageIsCorrected_of_same h fun p hp => hwrites p (hparts p hp)

/-- Whatever state the body starts from with its message corrected, it leaves one like that, completed or failed. -/
def KeepsCorrected (body : State → Result) : Prop :=
  ∀ s, MessageIsCorrected s → MessageIsCorrected (body s).state

theorem KeepsCorrected.of_writes {body : State → Result} (parts : List Part)
    (hwrites : ∀ s, Writes parts s (body s).state) (hparts : ∀ p ∈ correctionParts, p ∉ parts) : KeepsCorrected body :=
  fun s h => (hwrites s).messageIsCorrected h hparts

theorem Result.RollsBack.messageIsCorrected {r : Result} {s : State} (hback : r.RollsBack s)
    (h : MessageIsCorrected s) : MessageIsCorrected r.state := by
  obtain ⟨e, -, rfl⟩ := hback
  exact h

theorem KeepsCorrected.require {ready : State → Bool} {body : State → Result} (hbody : KeepsCorrected body) :
    KeepsCorrected fun s => require (ready s) s (body s) := by
  intro s h
  rcases require_cases (ready s) s (body s) with ⟨-, heq⟩ | ⟨-, heq⟩ <;> simp only [heq]
  · exact hbody s h
  · exact h

theorem KeepsCorrected.checkCount {n : BitVec 6} {body : State → Result} (hbody : KeepsCorrected body) :
    KeepsCorrected fun s => checkCount n s (body s) := by
  intro s h
  rcases checkCount_cases n s (body s) with ⟨-, heq⟩ | ⟨-, heq⟩ <;> simp only [heq]
  · exact hbody s h
  · exact h

theorem KeepsCorrected.andThen {body next : State → Result} (hbody : KeepsCorrected body)
    (hnext : KeepsCorrected next) : KeepsCorrected fun s => (body s).andThen next := by
  intro s h
  have hfirst := hbody s h
  dsimp only
  revert hfirst
  cases body s with
  | done t => exact hnext t
  | failed e t => exact id

theorem setVersionBody_keepsCorrected (ver : BitVec 6) : KeepsCorrected (setVersionBody ver) := by
  intro s h
  rcases setVersionBody_cases ver s with hback | ⟨-, hdone⟩
  · exact hback.messageIsCorrected h
  · rw [hdone]
    exact messageIsCorrected_of_invalid _ rfl

theorem setSideBody_keepsCorrected (side : BitVec 8) : KeepsCorrected (setSideBody side) := by
  intro s h
  rcases setSideBody_cases side s with hback | ⟨v, -, hdone⟩
  · exact hback.messageIsCorrected h
  · rw [hdone]
    exact messageIsCorrected_of_invalid _ rfl

/-- A decoded format is applied, which drops the message, or only reported in FMT_RESULT. -/
theorem recordFormat_messageIsCorrected (d : BitVec 5) (m : Nat) (s : State) (h : MessageIsCorrected s) :
    MessageIsCorrected (recordFormat d m s) := by
  unfold recordFormat
  split
  · exact messageIsCorrected_of_invalid _ rfl
  · exact (fmtResult_writes _ s).messageIsCorrected h (by simp [correctionParts])

theorem fmtDecode1Body_keepsCorrected : KeepsCorrected fmtDecode1Body := by
  intro s h
  rcases fmtDecode1Body_cases s with hback | ⟨d, m, hdone⟩
  · exact hback.messageIsCorrected h
  · rw [hdone]
    exact recordFormat_messageIsCorrected d m s h

theorem fmtDecode2Body_keepsCorrected : KeepsCorrected fmtDecode2Body := by
  intro s h
  rcases fmtDecode2Body_cases s with hback | ⟨d, m, hdone⟩
  · exact hback.messageIsCorrected h
  · rw [hdone]
    exact recordFormat_messageIsCorrected d m s h

theorem fmtGatherBody_keepsCorrected : KeepsCorrected fmtGatherBody :=
  .of_writes _ fmtGatherBody_writes (by simp [correctionParts])

theorem zzTraverseBody_keepsCorrected : KeepsCorrected zzTraverseBody :=
  fun _ _ => messageIsCorrected_of_invalid _ rfl

theorem rawAppendBody_keepsCorrected (n : BitVec 6) : KeepsCorrected (rawAppendBody n) := by
  intro s h
  rcases rawAppendBody_cases n s with hback | ⟨-, hdone⟩
  · exact hback.messageIsCorrected h
  · rw [hdone]
    exact messageIsCorrected_of_invalid _ rfl

/-- RS_CORRECT completes exactly when its three checks pass, in the state that holds the message they found. -/
theorem rsCorrectBody_done_iff (s t : State) :
    rsCorrectBody s = .done t ↔
      s.rawLen.toNat = capBits s ∧ padValue s = 0 ∧ ∃ message corrections,
        correctBlocks (configuredLayout s) (rawBytes s) 0 (blockCount (configuredLayout s)) =
          .ok (message, corrections) ∧ t = storeMessage message corrections s := by
  unfold rsCorrectBody
  by_cases hlen : s.rawLen.toNat = capBits s
  · by_cases hpad : padValue s = 0
    · cases correctBlocks (configuredLayout s) (rawBytes s) 0 (blockCount (configuredLayout s)) with
      | error b => simp [hlen, hpad]
      | ok found => simp [hlen, hpad, Prod.ext_iff, and_assoc, eq_comm]
    · simp [hlen, hpad]
  · simp [hlen]

theorem rsCorrectBody_keepsCorrected : KeepsCorrected rsCorrectBody := by
  intro s h
  rcases rsCorrectBody_cases s with hback | ⟨message, corrections, hdone⟩
  · exact hback.messageIsCorrected h
  · obtain ⟨hlen, hpad, message, corrections, hok, hstored⟩ := (rsCorrectBody_done_iff s _).mp hdone
    rw [hdone, hstored]
    refine fun _ => ⟨hlen, hpad, message, corrections, hok, rfl, fun k hk => ?_⟩
    have hread := bufRead_bufStore_stored s.msgBuf 0 message k hk
    rwa [Nat.zero_add] at hread

theorem segDecodeBody_keepsCorrected : KeepsCorrected segDecodeBody :=
  .of_writes _ segDecodeBody_writes (by simp [correctionParts, segDecodeParts])

/-- DECODE_ALL is five bodies of this kind, one after the other (44_control.md R221). -/
theorem decodeAllBody_keepsCorrected : KeepsCorrected decodeAllBody :=
  fmtGatherBody_keepsCorrected.andThen <| fmtDecode2Body_keepsCorrected.andThen <|
    zzTraverseBody_keepsCorrected.andThen <| rsCorrectBody_keepsCorrected.andThen segDecodeBody_keepsCorrected

/-- Every command is the end of a body of this kind. -/
theorem exec_keepsCorrected (i : Instr) : ∃ body, KeepsCorrected body ∧ ∀ s, exec i s = finish (body s) := by
  cases i with
  | nop => exact ⟨.done, fun _ h => h, fun _ => rfl⟩
  | setVersion ver => exact ⟨_, setVersionBody_keepsCorrected ver, fun _ => rfl⟩
  | setSide side => exact ⟨_, setSideBody_keepsCorrected side, fun _ => rfl⟩
  | setFormat fv =>
    have hbody : KeepsCorrected (setFormatBody fv) := fun _ _ => messageIsCorrected_of_invalid _ rfl
    exact ⟨_, hbody.require, fun _ => rfl⟩
  | fmtEncode fv => exact ⟨_, .of_writes _ (fmtEncodeBody_writes fv) (by simp [correctionParts]), fun _ => rfl⟩
  | fmtCheck sel => exact ⟨_, .of_writes _ (fmtCheckBody_writes sel) (by simp [correctionParts]), fun _ => rfl⟩
  | fmtGather => exact ⟨_, fmtGatherBody_keepsCorrected.require, fun _ => rfl⟩
  | fmtDecode1 => exact ⟨_, fmtDecode1Body_keepsCorrected, fun _ => rfl⟩
  | fmtDecode2 => exact ⟨_, fmtDecode2Body_keepsCorrected, fun _ => rfl⟩
  | maskEval mid row col =>
    exact ⟨_, .of_writes _ (maskEvalBody_writes mid row col) (by simp [correctionParts]), fun _ => rfl⟩
  | dzQuery x y =>
    have hbody : KeepsCorrected (dzQueryBody x y) := .of_writes _ (dzQueryBody_writes x y) (by simp [correctionParts])
    exact ⟨_, hbody.require, fun _ => rfl⟩
  | zzTraverse => exact ⟨_, zzTraverseBody_keepsCorrected.require, fun _ => rfl⟩
  | rawRead n =>
    have hbody : KeepsCorrected (rawReadBody n) := .of_writes _ (rawReadBody_writes n) (by simp [correctionParts])
    exact ⟨_, hbody.require.checkCount, fun _ => rfl⟩
  | rawRewind =>
    have hbody : KeepsCorrected rawRewindBody := .of_writes _ rawRewindBody_writes (by simp [correctionParts])
    exact ⟨_, hbody.require, fun _ => rfl⟩
  | rawClear =>
    have hbody : KeepsCorrected rawClearBody := fun _ _ => messageIsCorrected_of_invalid _ rfl
    exact ⟨_, hbody.require, fun _ => rfl⟩
  | rawAppend n => exact ⟨_, (rawAppendBody_keepsCorrected n).require.checkCount, fun _ => rfl⟩
  | rsCorrect => exact ⟨_, rsCorrectBody_keepsCorrected.require, fun _ => rfl⟩
  | msgRead n =>
    have hbody : KeepsCorrected (msgReadBody n) := .of_writes _ (msgReadBody_writes n) (by simp [correctionParts])
    exact ⟨_, hbody.require.checkCount, fun _ => rfl⟩
  | msgRewind =>
    have hbody : KeepsCorrected msgRewindBody := .of_writes _ msgRewindBody_writes (by simp [correctionParts])
    exact ⟨_, hbody.require, fun _ => rfl⟩
  | segMode =>
    have hbody : KeepsCorrected segModeBody := .of_writes _ segModeBody_writes (by simp [correctionParts])
    exact ⟨_, hbody.require, fun _ => rfl⟩
  | segCount =>
    have hbody : KeepsCorrected segCountBody := .of_writes _ segCountBody_writes (by simp [correctionParts])
    exact ⟨_, hbody.require, fun _ => rfl⟩
  | segPayload =>
    have hbody : KeepsCorrected segPayloadBody := .of_writes _ segPayloadBody_writes (by simp [correctionParts])
    exact ⟨_, hbody.require, fun _ => rfl⟩
  | segDecode => exact ⟨_, segDecodeBody_keepsCorrected.require, fun _ => rfl⟩
  | decodeAll => exact ⟨_, decodeAllBody_keepsCorrected.require, fun _ => rfl⟩

theorem runCommand_messageIsCorrected (s t : State) (h : MessageIsCorrected s) (hrun : runCommand s = .next t) :
    MessageIsCorrected t := by
  rcases runCommand_cases s with ⟨i, -, heq⟩ | ⟨_, -, heq⟩
  · obtain ⟨body, hbody, hexec⟩ := exec_keepsCorrected i
    rw [heq, hexec] at hrun
    exact (finish_writes _ t hrun).messageIsCorrected (hbody s h) (by simp [correctionParts])
  · rw [heq] at hrun
    cases hrun
    exact (raiseError_writes _ s).messageIsCorrected h (by simp [correctionParts])

/-- An input resets the block, which drops the message, or writes none of the message's parts. -/
theorem handleEvent_messageIsCorrected (e : Event) (s : State) (h : MessageIsCorrected s) :
    MessageIsCorrected (handleEvent e s) := by
  rcases handleEvent_cases e s with ⟨_, _, _, heq⟩ | ⟨_, heq⟩ | ⟨_, heq⟩ | ⟨w, _, heq⟩ | ⟨_, -, heq⟩ |
    ⟨_, _, _, _, -, heq⟩ | ⟨_, heq⟩ <;> rw [heq]
  · exact h
  · exact messageIsCorrected_of_invalid _ rfl
  · exact h
  · rcases submitCommand_cases w s with ⟨-, hsubmit⟩ | ⟨-, -, hsubmit⟩ <;> rw [hsubmit] <;> exact h
  · exact h
  · exact h
  · exact h

theorem takeInput_messageIsCorrected (s : State) (h : MessageIsCorrected s) : MessageIsCorrected (takeInput s) := by
  cases hevents : s.events with
  | nil => rwa [takeInput_nil s hevents]
  | cons e rest =>
    rw [takeInput_cons s e rest hevents]
    exact handleEvent_messageIsCorrected e _ h

/-- Settles O49: a step is the end of a command or an input, and both keep the message corrected. -/
theorem stepKeepsTheMessageCorrected : Obligations.StepKeepsTheMessageCorrected := by
  unfold Obligations.StepKeepsTheMessageCorrected
  intro s t h hstep
  rcases step_cases s t hstep with ⟨-, -, hrun⟩ | ⟨-, rfl⟩
  · exact runCommand_messageIsCorrected s t h hrun
  · exact takeInput_messageIsCorrected s h

end Sys2Proof.Machine
end

section
/-! SUPPORT. The block decoder is sound (42_rs_deinterleaver.md R174): its answer is a codeword it has checked. -/

namespace Sys2Proof.Machine

theorem hammingDistance_eq_length_filter (r c : List Byte) :
    hammingDistance r c = ((r.zip c).filter fun p => p.1 != p.2).length := by
  induction r generalizing c with
  | nil => rfl
  | cons a r ih =>
    cases c with
    | nil => rfl
    | cons b c =>
      by_cases hab : a = b
      · simp [hammingDistance, ih, hab]
      · simp [hammingDistance, ih, hab]
        omega

theorem rsDecode_of_isCodeword (ec : Nat) (r : List Byte) (h : isCodeword ec r = true) :
    rsDecode ec r = some (r, 0) := by
  simp [rsDecode, h]

/-- What is no codeword is answered with the reference algorithm's word, if that meets R174's condition. -/
theorem rsDecode_eq_some_iff_of_not_isCodeword (ec : Nat) (r c : List Byte) (k : Nat) (h : isCodeword ec r = false) :
    rsDecode ec r = some (c, k) ↔
      correctionOf ec r = c ∧ isCodeword ec c = true ∧ hammingDistance r c = k ∧ k ≤ ec / 2 := by
  simp only [rsDecode, h, Bool.false_eq_true, if_false, Bool.and_eq_true, decide_eq_true_eq,
    Option.ite_none_right_eq_some, Option.some.injEq, Prod.mk.injEq]
  constructor
  · rintro ⟨⟨hcode, hnear⟩, rfl, rfl⟩
    exact ⟨rfl, hcode, rfl, hnear⟩
  · rintro ⟨rfl, hcode, rfl, hnear⟩
    exact ⟨⟨hcode, hnear⟩, rfl, rfl⟩

theorem rsDecode_sound {ec : Nat} {r c : List Byte} {k : Nat} (h : rsDecode ec r = some (c, k)) :
    c.length = r.length ∧ isCodeword ec c = true ∧ hammingDistance r c = k ∧ k ≤ ec / 2 := by
  cases hr : isCodeword ec r with
  | true =>
    rw [rsDecode_of_isCodeword ec r hr] at h
    cases h
    exact ⟨rfl, hr, hammingDistance_self r, Nat.zero_le _⟩
  | false =>
    obtain ⟨rfl, hrest⟩ := (rsDecode_eq_some_iff_of_not_isCodeword ec r c k hr).mp h
    exact ⟨correctionOf_length ec r, hrest⟩

/-- Settles O30: the checks before the answer, and the distance as a count of differing bytes. -/
theorem rsDecodeIsSound : Obligations.RsDecodeIsSound := by
  unfold Obligations.RsDecodeIsSound
  intro ec r c k h
  obtain ⟨hlen, hcode, hdist, hnear⟩ := rsDecode_sound h
  exact ⟨hlen, hcode, hnear, hdist ▸ hammingDistance_eq_length_filter r c⟩

end Sys2Proof.Machine
end

section
/-! SUPPORT. De-interleaving (42_rs_deinterleaver.md R175): the bytes a run of columns deals to one block. -/

namespace Sys2Proof.Machine

theorem dealtTo_append (b : Nat) (owners owners' : List Nat) (stream stream' : List Byte)
    (h : owners.length = stream.length) :
    dealtTo b (owners ++ owners') (stream ++ stream') = dealtTo b owners stream ++ dealtTo b owners' stream' := by
  simp [dealtTo, List.zip_append h]

theorem dealtTo_of_not_mem (b : Nat) (owners : List Nat) (stream : List Byte) (h : b ∉ owners) :
    dealtTo b owners stream = [] := by
  simp only [dealtTo, List.map_eq_nil_iff, List.filter_eq_nil_iff, beq_iff_eq]
  rintro ⟨a, x⟩ hmem rfl
  exact h (List.of_mem_zip hmem).1

/-- A column over the blocks a to a + n - 1 deals one byte to each of them. -/
theorem dealtTo_column (b a n : Nat) (stream : List Byte) (hlen : stream.length = n) (ha : a ≤ b) (hb : b < a + n) :
    dealtTo b (List.range' a n) stream = [stream.getD (b - a) 0#8] := by
  induction n generalizing a stream with
  | zero => omega
  | succ n ih =>
    obtain ⟨x, rest, rfl⟩ := List.exists_cons_of_length_eq_add_one hlen
    have hsplit : dealtTo b (List.range' a (n + 1)) (x :: rest) =
        dealtTo b [a] [x] ++ dealtTo b (List.range' (a + 1) n) rest :=
      dealtTo_append b [a] (List.range' (a + 1) n) [x] rest rfl
    rw [hsplit]
    by_cases hab : a = b
    · subst hab
      rw [dealtTo_of_not_mem a (List.range' (a + 1) n) rest (by simp)]
      simp [dealtTo]
    · have hrest := ih (a + 1) rest (by simpa using hlen) (by omega) (by omega)
      have hplace : b - a = b - (a + 1) + 1 := by omega
      rw [dealtTo_of_not_mem b [a] [x] (by simpa using Ne.symm hab), hrest, hplace]
      rfl

/-- n columns of the blocks 0 to size - 1. -/
def columns (size n : Nat) : List Nat := (List.range n).flatMap fun _ => List.range size

theorem columns_succ (size n : Nat) : columns size (n + 1) = List.range size ++ columns size n := by
  simp only [columns, List.range_succ_eq_map, List.flatMap_cons, List.flatMap_map]

theorem columns_length (size n : Nat) : (columns size n).length = n * size := by
  simp [columns]

/-- Whole columns deal to block b one byte of each column, in column order. -/
theorem dealtTo_columns (b size n : Nat) (stream : List Byte) (hlen : stream.length = n * size) (hb : b < size) :
    dealtTo b (columns size n) stream = (List.range n).map fun j => stream.getD (j * size + b) 0#8 := by
  induction n generalizing stream with
  | zero => rfl
  | succ n ih =>
    have hsize : (n + 1) * size = n * size + size := Nat.succ_mul n size
    have hfirst : (stream.take size).length = size := by
      rw [List.length_take]
      omega
    have hcolumn : dealtTo b (List.range size) (stream.take size) = [stream.getD b 0#8] := by
      rw [List.range_eq_range', dealtTo_column b 0 size _ hfirst (Nat.zero_le b) (by omega)]
      simp [List.getD_eq_getElem?_getD, hb]
    have hrest := ih (stream.drop size) (by rw [List.length_drop]; omega)
    conv_lhs => rw [← List.take_append_drop size stream]
    rw [columns_succ, dealtTo_append b _ _ _ _ (by rw [List.length_range, hfirst]), hcolumn, hrest,
      List.range_succ_eq_map, List.map_cons, List.map_map]
    simp only [List.singleton_append, Nat.zero_mul, Nat.zero_add, List.cons.injEq, true_and, List.map_inj_left,
      Function.comp_apply]
    intro j _
    have hplace : (j + 1) * size + b = size + (j * size + b) := by ring
    simp only [List.getD_eq_getElem?_getD, List.getElem?_drop, Nat.succ_eq_add_one, hplace]

theorem ecOwners_eq (lay : BlockLayout) : ecOwners lay = columns (blockCount lay) lay.ec := rfl

/-- Every block has a byte in the columns before D1, the long blocks have one in column D1. -/
theorem dataOwners_eq (lay : BlockLayout) :
    dataOwners lay = columns (blockCount lay) lay.d1 ++ List.range' lay.b1 lay.b2 := by
  have hfull : ∀ j ∈ List.range lay.d1,
      ((List.range (blockCount lay)).filter fun b => j < blockData lay b) = List.range (blockCount lay) := by
    intro j hj
    rw [List.filter_eq_self]
    intro b _
    have hshort : lay.d1 ≤ blockData lay b := by
      unfold blockData
      split <;> omega
    exact decide_eq_true ((List.mem_range.mp hj).trans_le hshort)
  have hlong : ∀ b, lay.d1 < blockData lay b ↔ lay.b1 ≤ b := by
    intro b
    unfold blockData
    split <;> omega
  have hlast : ((List.range (blockCount lay)).filter fun b => lay.d1 < blockData lay b) =
      List.range' lay.b1 lay.b2 := by
    simp only [hlong, blockCount, List.range_add, List.filter_append, List.range'_eq_map_range]
    rw [List.filter_eq_nil_iff.mpr (by simp), List.filter_eq_self.mpr (by simp), List.nil_append]
  rw [dataOwners, List.range_succ, List.flatMap_append, List.flatMap_singleton, hlast, columns]
  exact congrArg (· ++ _) (List.flatMap_congr hfull)

theorem dataCw_eq (lay : BlockLayout) : dataCw lay = lay.d1 * blockCount lay + lay.b2 := by
  simp only [dataCw, blockCount]
  ring

theorem stride_lt {j n b size : Nat} (hj : j < n) (hb : b < size) : j * size + b < n * size := by
  have := Nat.mul_le_mul_right size hj
  rw [Nat.succ_mul] at this
  omega

/-- The data bytes of block b: one of each full column, and for a long block one of column D1. -/
def dataPart (lay : BlockLayout) (data : List Byte) (b : Nat) : List Byte :=
  ((List.range lay.d1).map fun j => data.getD (j * blockCount lay + b) 0#8) ++
    if b < lay.b1 then [] else [data.getD (lay.d1 * blockCount lay + (b - lay.b1)) 0#8]

theorem dataPart_length (lay : BlockLayout) (data : List Byte) (b : Nat) :
    (dataPart lay data b).length = blockData lay b := by
  simp only [dataPart, List.length_append, List.length_map, List.length_range, blockData]
  split <;> rfl

theorem dealtTo_dataOwners (lay : BlockLayout) (data : List Byte) (b : Nat) (hlen : data.length = dataCw lay)
    (hb : b < blockCount lay) : dealtTo b (dataOwners lay) data = dataPart lay data b := by
  rw [dataCw_eq] at hlen
  have hfull : (data.take (lay.d1 * blockCount lay)).length = lay.d1 * blockCount lay := by
    rw [List.length_take]
    omega
  have hcolumns : dealtTo b (columns (blockCount lay) lay.d1) (data.take (lay.d1 * blockCount lay)) =
      (List.range lay.d1).map fun j => data.getD (j * blockCount lay + b) 0#8 := by
    rw [dealtTo_columns b _ _ _ hfull hb, List.map_inj_left]
    intro j hj
    simp [List.getD_eq_getElem?_getD, stride_lt (List.mem_range.mp hj) hb]
  have hlast : dealtTo b (List.range' lay.b1 lay.b2) (data.drop (lay.d1 * blockCount lay)) =
      if b < lay.b1 then [] else [data.getD (lay.d1 * blockCount lay + (b - lay.b1)) 0#8] := by
    split
    · exact dealtTo_of_not_mem b _ _ (by rw [List.mem_range'_1]; omega)
    · rw [dealtTo_column b lay.b1 lay.b2 _ (by rw [List.length_drop]; omega) (by omega) hb]
      simp [List.getD_eq_getElem?_getD]
  conv_lhs => rw [← List.take_append_drop (lay.d1 * blockCount lay) data]
  rw [dataOwners_eq, dealtTo_append b _ _ _ _ (by rw [columns_length, hfull]), hcolumns, hlast,
    dataPart]

/-- A block in full: its bytes of the data stream, then its bytes of the EC stream. -/
theorem blockOf_eq (lay : BlockLayout) (stream : List Byte) (b : Nat)
    (hlen : stream.length = dataCw lay + lay.ec * blockCount lay) (hb : b < blockCount lay) :
    blockOf lay stream b =
      dataPart lay (stream.take (dataCw lay)) b ++
        (List.range lay.ec).map fun j => (stream.drop (dataCw lay)).getD (j * blockCount lay + b) 0#8 := by
  rw [blockOf, dealtTo_dataOwners lay _ b (by rw [List.length_take]; omega) hb, ecOwners_eq,
    dealtTo_columns b _ _ _ (by rw [List.length_drop]; omega) hb]

theorem blockOf_length (lay : BlockLayout) (stream : List Byte) (b : Nat)
    (hlen : stream.length = dataCw lay + lay.ec * blockCount lay) (hb : b < blockCount lay) :
    (blockOf lay stream b).length = blockData lay b + lay.ec := by
  rw [blockOf_eq lay stream b hlen hb, List.length_append, dataPart_length, List.length_map, List.length_range]

theorem getElem?_eq_some_getD {l : List Byte} {i : Nat} (h : i < l.length) : l[i]? = some (l.getD i 0#8) := by
  simp [h]

/-- Settles O32: the parts of a block, each read at its place. -/
theorem deinterleavePositions : Obligations.DeinterleavePositions := by
  unfold Obligations.DeinterleavePositions
  intro lay stream b hlen hb
  have hblock := blockOf_eq lay stream b hlen hb
  have hdata := dataCw_eq lay
  have htake : (stream.take (dataCw lay)).length = dataCw lay := by
    rw [List.length_take]
    omega
  have hdrop : (stream.drop (dataCw lay)).length = lay.ec * blockCount lay := by
    rw [List.length_drop]
    omega
  refine ⟨blockOf_length lay stream b hlen hb, fun j hj => ?_, fun hlong => ?_, fun j hj => ?_⟩
  · have hplace := stride_lt hj hb
    rw [hblock, dataPart, List.append_assoc, List.getElem?_append_left (by simpa using hj), List.getElem?_map,
      List.getElem?_range hj, Option.map_some, ← getElem?_eq_some_getD (by omega),
      List.getElem?_take_of_lt (by omega)]
  · have hplace : b - lay.b1 < lay.b2 := by
      unfold blockCount at hb
      omega
    rw [hblock, dataPart, if_neg (by omega), List.append_assoc, List.getElem?_append_right (by simp)]
    rw [List.length_map, List.length_range, Nat.sub_self, List.singleton_append, List.getElem?_cons_zero,
      ← getElem?_eq_some_getD (by omega), List.getElem?_take_of_lt (by omega)]
  · have hplace := stride_lt hj hb
    rw [hblock, List.getElem?_append_right (by rw [dataPart_length]; exact Nat.le_add_right _ _), dataPart_length,
      Nat.add_sub_cancel_left, List.getElem?_map, List.getElem?_range hj, Option.map_some,
      ← getElem?_eq_some_getD (by omega), List.getElem?_drop, Nat.add_assoc]

end Sys2Proof.Machine
end

section
/-! SUPPORT. RS_CORRECT (42_rs_deinterleaver.md R175-R177): the correction of the blocks as a whole, where each block's
data stands in the message, and the state the command leaves. -/

namespace Sys2Proof.Machine

/-- When every block decodes, the message is their data parts in block order and the count is the sum of theirs. -/
theorem correctBlocks_of_each (lay : BlockLayout) (stream : List Byte) (block : Nat → List Byte) (changed : Nat → Nat)
    (b n : Nat) (h : ∀ k, b ≤ k → k < b + n → rsDecode lay.ec (blockOf lay stream k) = some (block k, changed k)) :
    correctBlocks lay stream b n =
      .ok ((List.range' b n).flatMap fun k => (block k).take (blockData lay k),
        ((List.range' b n).map changed).sum) := by
  induction n generalizing b with
  | zero => rfl
  | succ n ih =>
    have hrest := ih (b + 1) fun k hk hkn => h k (by omega) (by omega)
    simp only [correctBlocks, h b le_rfl (by omega), hrest, List.range'_succ, List.flatMap_cons, List.map_cons,
      List.sum_cons]

/-- The first block that does not decode is the one reported. -/
theorem correctBlocks_of_first_failure (lay : BlockLayout) (stream : List Byte) (b n k : Nat) (hb : b ≤ k)
    (hk : k < b + n) (hfail : rsDecode lay.ec (blockOf lay stream k) = none)
    (hbefore : ∀ a, b ≤ a → a < k → rsDecode lay.ec (blockOf lay stream a) ≠ none) :
    correctBlocks lay stream b n = .error k := by
  induction n generalizing b with
  | zero => omega
  | succ n ih =>
    rcases Nat.eq_or_lt_of_le hb with rfl | hlt
    · simp only [correctBlocks, hfail]
    · obtain ⟨⟨c, e⟩, hdecode⟩ := Option.ne_none_iff_exists'.mp (hbefore b le_rfl hlt)
      have hrest := ih (b + 1) hlt (by omega) fun a ha => hbefore a (by omega)
      simp only [correctBlocks, hdecode, hrest]

theorem flatMap_range_getD {α : Type} (parts : Nat → List α) (n b j : Nat) (d : α) (hb : b < n)
    (hj : j < (parts b).length) :
    ((List.range n).flatMap parts).getD (((List.range b).flatMap parts).length + j) d = (parts b).getD j d := by
  obtain ⟨m, rfl⟩ : ∃ m, n = b + 1 + m := ⟨n - (b + 1), by omega⟩
  rw [List.range_add, List.range_succ, List.flatMap_append, List.flatMap_append, List.flatMap_singleton,
    List.append_assoc, List.getD_append_right _ _ _ _ (Nat.le_add_right _ _), Nat.add_sub_cancel_left,
    List.getD_append _ _ _ _ hj]

/-- The index in the message of the first data byte of block b. -/
def dataStart (lay : BlockLayout) (b : Nat) : Nat :=
  if b < lay.b1 then b * lay.d1 else lay.b1 * lay.d1 + (b - lay.b1) * (lay.d1 + 1)

theorem dataStart_succ (lay : BlockLayout) (b : Nat) : dataStart lay (b + 1) = dataStart lay b + blockData lay b := by
  unfold dataStart blockData
  rcases Nat.lt_trichotomy (b + 1) lay.b1 with h | h | h
  · rw [if_pos h, if_pos (by omega), if_pos (by omega), Nat.succ_mul]
  · rw [if_neg (by omega), if_pos (by omega), if_pos (by omega), ← h, Nat.sub_self, Nat.zero_mul, Nat.add_zero,
      Nat.succ_mul]
  · have hlong : b + 1 - lay.b1 = (b - lay.b1) + 1 := by omega
    rw [if_neg (by omega), if_neg (by omega), if_neg (by omega), hlong, Nat.succ_mul, Nat.add_assoc]

theorem dataStart_mono (lay : BlockLayout) : Monotone (dataStart lay) :=
  monotone_nat_of_le_succ fun b => (dataStart_succ lay b).symm ▸ Nat.le_add_right _ _

theorem dataStart_blockCount (lay : BlockLayout) : dataStart lay (blockCount lay) = dataCw lay := by
  unfold dataStart blockCount dataCw
  split
  · omega
  · rw [Nat.add_sub_cancel_left]

/-- The data parts of decoded blocks, joined in block order. -/
def joinedData (lay : BlockLayout) (block : Nat → List Byte) : List Byte :=
  (List.range (blockCount lay)).flatMap fun b => (block b).take (blockData lay b)

/-- Parts as long as the blocks' data start where the data parts start. -/
theorem length_flatMap_range_of_blockData (lay : BlockLayout) (parts : Nat → List Byte) (b : Nat)
    (hlen : ∀ a < b, (parts a).length = blockData lay a) : ((List.range b).flatMap parts).length = dataStart lay b := by
  induction b with
  | zero =>
    unfold dataStart
    split <;> simp_all
  | succ b ih =>
    rw [List.range_succ, List.flatMap_append, List.flatMap_singleton, List.length_append,
      ih fun a ha => hlen a (by omega), hlen b (Nat.lt_succ_self b), dataStart_succ]

/-- TOTAL_CW is the number of bytes of the blocks of every layout the state can name (42_rs_deinterleaver.md R172). -/
theorem rawBytes_length (s : State) :
    (rawBytes s).length =
      dataCw (configuredLayout s) + (configuredLayout s).ec * blockCount (configuredLayout s) := by
  have hlayouts : ∀ v < 64, ∀ l ∈ levels,
      totalCw v = dataCw (layoutOf v l) + (layoutOf v l).ec * blockCount (layoutOf v l) := by decide +kernel
  rw [rawBytes, List.length_map, List.length_range]
  exact hlayouts _ s.version.isLt _ (levels_complete _)

theorem rawBytes_eq_rawByte {s : State} {k : Nat} {x : Byte} (h : (rawBytes s)[k]? = some x) : x = rawByte s k := by
  rw [rawBytes, List.getElem?_map, Option.map_eq_some_iff] at h
  obtain ⟨i, hi, rfl⟩ := h
  obtain ⟨hk, rfl⟩ := List.getElem?_eq_some_iff.mp hi
  rw [List.getElem_range]

theorem exec_rsCorrect (s : State) (hraw : s.rValid = true) : exec .rsCorrect s = finish (rsCorrectBody s) := by
  change finish (require s.rValid s (rsCorrectBody s)) = _
  rw [hraw, require_true]

/-- Settles O34: the checks of the body in their order, the last one by the first block that fails. -/
theorem rsCorrectRaisesTheFirstError : Obligations.RsCorrectRaisesTheFirstError := by
  unfold Obligations.RsCorrectRaisesTheFirstError
  intro s hraw
  refine ⟨fun hlen => ?_, fun hlen hpad => ?_, fun hlen hpad b hb hfail hbefore => ?_⟩ <;>
    rw [exec_rsCorrect s hraw, rsCorrectBody]
  · rw [if_pos hlen]
    rfl
  · rw [if_neg (not_not.mpr hlen), if_pos hpad]
    rfl
  · rw [if_neg (not_not.mpr hlen), if_neg (not_not.mpr hpad),
      correctBlocks_of_first_failure _ _ 0 _ b (Nat.zero_le b) (by rwa [Nat.zero_add]) hfail fun a _ => hbefore a]
    rfl

/-- The state RS_CORRECT leaves when every block decodes. -/
theorem exec_rsCorrect_of_each (s : State) (block : Nat → List Byte) (changed : Nat → Nat) (hraw : s.rValid = true)
    (hlen : s.rawLen.toNat = capBits s) (hpad : padValue s = 0)
    (hdecode : ∀ b < blockCount (configuredLayout s),
      rsDecode (configuredLayout s).ec (blockOf (configuredLayout s) (rawBytes s) b) = some (block b, changed b)) :
    exec .rsCorrect s = .next (complete (storeMessage
      (joinedData (configuredLayout s) block) ((List.range (blockCount (configuredLayout s))).map changed).sum s)) := by
  have hblocks := correctBlocks_of_each (configuredLayout s) (rawBytes s) block changed 0
    (blockCount (configuredLayout s)) fun b _ hb => hdecode b (by omega)
  rw [← List.range_eq_range', ← joinedData] at hblocks
  rw [exec_rsCorrect s hraw, (rsCorrectBody_done_iff s _).mpr ⟨hlen, hpad, _, _, hblocks, rfl⟩, finish_done]

/-- A decoded block is as long as the block received, so its data part is as long as the block's data. -/
theorem length_take_of_rsDecode {s : State} {c : List Byte} {k b : Nat} (hb : b < blockCount (configuredLayout s))
    (hdecode : rsDecode (configuredLayout s).ec (blockOf (configuredLayout s) (rawBytes s) b) = some (c, k)) :
    (c.take (blockData (configuredLayout s) b)).length = blockData (configuredLayout s) b := by
  rw [List.length_take, (rsDecode_sound hdecode).1, blockOf_length _ _ b (rawBytes_length s) hb]
  omega

/-- MSGBUF after a store of decoded blocks: each data byte at its place, every entry past the message as before. -/
theorem bufRead_storedBlocks (lay : BlockLayout) (block : Nat → List Byte) (m : List Host.Cell)
    (hlen : ∀ b < blockCount lay, ((block b).take (blockData lay b)).length = blockData lay b) :
    (∀ b < blockCount lay, ∀ j < blockData lay b,
      bufRead (bufStore m 0 (joinedData lay block)) (dataStart lay b + j) = (block b).getD j 0#8) ∧
    ∀ k, dataCw lay ≤ k → bufRead (bufStore m 0 (joinedData lay block)) k = bufRead m k := by
  have hstart : ∀ b ≤ blockCount lay,
      ((List.range b).flatMap fun b => (block b).take (blockData lay b)).length = dataStart lay b :=
    fun b hb => length_flatMap_range_of_blockData lay _ b fun a ha => hlen a (by omega)
  have htotal : (joinedData lay block).length = dataCw lay := (hstart _ le_rfl).trans (dataStart_blockCount lay)
  refine ⟨fun b hb j hj => ?_, fun k hk => ?_⟩
  · have hwithin := hlen b hb
    have hplace := flatMap_range_getD (fun b => (block b).take (blockData lay b)) (blockCount lay) b j 0#8 hb (by omega)
    have hbound : dataStart lay b + j < dataCw lay := by
      have hmono := dataStart_mono lay (Nat.succ_le_of_lt hb)
      rw [Nat.succ_eq_add_one, dataStart_succ, dataStart_blockCount] at hmono
      omega
    rw [hstart b hb.le] at hplace
    rw [bufRead_bufStore, if_pos ⟨Nat.zero_le _, by omega⟩, Nat.sub_zero]
    refine hplace.trans ?_
    simp [List.getD_eq_getElem?_getD, hj]
  · exact bufRead_bufStore_elsewhere m 0 _ k (Or.inr (by omega))

/-- Settles O33: the stored parts at their places; blocks that are codewords decode to themselves. -/
theorem rsCorrectStoresTheMessage : Obligations.RsCorrectStoresTheMessage := by
  unfold Obligations.RsCorrectStoresTheMessage
  rintro s lay place rfl hplace hraw hlen hpad
  obtain rfl : place = fun b j => dataStart (configuredLayout s) b + j := funext₂ hplace
  refine ⟨fun block changed hdecode => ?_, fun hcode => ?_⟩
  · exact ⟨_, exec_rsCorrect_of_each s block changed hraw hlen hpad hdecode,
      bufRead_storedBlocks _ block s.msgBuf fun b hb => length_take_of_rsDecode hb (hdecode b hb)⟩
  · have hdecode : ∀ b < blockCount (configuredLayout s), _ := fun b hb => rsDecode_of_isCodeword _ _ (hcode b hb)
    have hexec := exec_rsCorrect_of_each s _ (fun _ => 0) hraw hlen hpad hdecode
    obtain ⟨hdata, hrest⟩ := bufRead_storedBlocks (configuredLayout s) _ s.msgBuf
      fun b hb => length_take_of_rsDecode hb (hdecode b hb)
    rw [List.map_const', List.sum_replicate, smul_zero] at hexec
    refine ⟨_, hexec, fun b hb j hj => (hdata b hb j hj).trans ?_, hrest⟩
    obtain ⟨hblock, hshort, hlong, -⟩ := deinterleavePositions _ (rawBytes s) b (rawBytes_length s) hb
    have hread : (blockOf (configuredLayout s) (rawBytes s) b)[j]? =
        some ((blockOf (configuredLayout s) (rawBytes s) b).getD j 0#8) := getElem?_eq_some_getD (by omega)
    split
    · next hj1 => exact rawBytes_eq_rawByte ((hshort j hj1).symm.trans hread)
    · next hj1 =>
      have hcolumn : (configuredLayout s).b1 ≤ b ∧ j = (configuredLayout s).d1 := by
        unfold blockData at hj
        split at hj <;> omega
      obtain ⟨hb1, rfl⟩ := hcolumn
      exact rawBytes_eq_rawByte ((hlong hb1).symm.trans hread)

/-- Storing what a canonical buffer holds already leaves it as it is. -/
theorem bufStore_of_bufRead_eq {α : Type} [Inhabited α] [DecidableEq α] (b : Buf α) (xs : List α) (hwf : bufWf b = true)
    (h : ∀ k (hk : k < xs.length), bufRead b k = xs[k]) : bufStore b 0 xs = b := by
  refine bufWf_ext _ _ (bufWf_bufStore b 0 xs hwf) hwf fun k => ?_
  rw [bufRead_bufStore]
  split
  · next hk =>
    have hk' : k < xs.length := by omega
    simp [h k hk', hk']
  · rfl

/-- Settles O35: the checks pass as they did, and the message found is the one stored. -/
theorem rsCorrectRepeats : Obligations.RsCorrectRepeats := by
  unfold Obligations.RsCorrectRepeats
  intro s hinv hcorrected hvalid
  obtain ⟨hlen, hpad, message, corrections, hok, hcount, hmessage⟩ := hcorrected hvalid
  have hlayers := (inv_iff_layers s).mp hinv
  have hbuffer := bufStore_of_bufRead_eq s.msgBuf message hlayers.buffers.message hmessage
  have hlength : BitVec.ofNat 12 (dataCw (configuredLayout s)) = s.msgLen := by
    rw [← hinv.message_length hvalid, BitVec.ofNat_toNat, BitVec.setWidth_eq]
  rw [exec_rsCorrect s (hinv.message_needs_raw hvalid),
    (rsCorrectBody_done_iff s _).mpr ⟨hlen, hpad, message, corrections, hok, rfl⟩, finish_done, storeMessage, hbuffer,
    hlength, ← hcount, ← hvalid]
  rfl

end Sys2Proof.Machine
end

section
/-! SUPPORT. GF(256) (00_scope.md R13, 42_rs_deinterleaver.md R173): in a field of characteristic 2 a root of
x^8 + x^4 + x^3 + x^2 + 1 reads a byte as a polynomial in it, and the block's operations on bytes are the field's. -/

namespace Sys2Proof.Machine

/-! The powers of α. -/

theorem alphaPow_eq_iterate (k : Nat) : alphaPow k = mulAlpha^[k] 1#8 := by
  induction k with
  | zero => rfl
  | succ k ih => rw [alphaPow, ih, Function.iterate_succ_apply']

theorem alphaPow_255 : alphaPow 255 = 1#8 := by
  decide +kernel

theorem alphaPow_ne_one : ∀ k < 255, k ≠ 0 → alphaPow k ≠ 1#8 := by
  decide +kernel

theorem alphaPow_ne_zero : ∀ k < 255, alphaPow k ≠ 0#8 := by
  decide +kernel

/-- α comes back to 1 after 255 products and not before. -/
theorem minimalPeriod_mulAlpha : Function.minimalPeriod mulAlpha 1#8 = 255 := by
  have hperiodic : Function.IsPeriodicPt mulAlpha 255 1#8 := by
    rw [Function.IsPeriodicPt, Function.IsFixedPt, ← alphaPow_eq_iterate, alphaPow_255]
  have hle := hperiodic.minimalPeriod_le (by decide)
  have hpos := hperiodic.minimalPeriod_pos (by decide)
  by_contra hne
  refine alphaPow_ne_one _ (lt_of_le_of_ne hle hne) hpos.ne' ?_
  rw [alphaPow_eq_iterate, Function.iterate_minimalPeriod]

theorem alphaPow_injOn : Set.InjOn alphaPow (Set.Iio 255) := by
  have hinj := Function.iterate_injOn_Iio_minimalPeriod (f := mulAlpha) (x := 1#8)
  rw [minimalPeriod_mulAlpha] at hinj
  exact hinj.congr fun k _ => (alphaPow_eq_iterate k).symm

/-- The 255 powers of α are all the 255 bytes but 0. -/
theorem exists_alphaPow (a : Byte) (ha : a ≠ 0#8) : ∃ k, alphaPow k = a := by
  have hsub : (Finset.range 255).image alphaPow ⊆ Finset.univ.erase 0#8 := by
    intro b hb
    obtain ⟨k, hk, rfl⟩ := Finset.mem_image.mp hb
    exact Finset.mem_erase.mpr ⟨alphaPow_ne_zero k (Finset.mem_range.mp hk), Finset.mem_univ _⟩
  have hbytes : Fintype.card Byte = 256 := by rw [← FinEnum.card_eq_fintypeCard, FinEnum.card_bitVec]; rfl
  have hcard : (Finset.univ.erase 0#8 : Finset Byte).card ≤ ((Finset.range 255).image alphaPow).card := by
    rw [Finset.card_image_of_injOn (by simpa using alphaPow_injOn), Finset.card_erase_of_mem (Finset.mem_univ _),
      Finset.card_univ, hbytes, Finset.card_range]
  have hmem : a ∈ (Finset.range 255).image alphaPow := by
    rw [Finset.eq_of_subset_of_card_le hsub hcard]
    exact Finset.mem_erase.mpr ⟨ha, Finset.mem_univ _⟩
  obtain ⟨k, -, hk⟩ := Finset.mem_image.mp hmem
  exact ⟨k, hk⟩

/-! The bytes as elements of a field. -/

section
variable {K : Type*} [Field K]

/-- The root of the byte field's polynomial α is read as. -/
def IsByteRoot (β : K) : Prop := β ^ 8 = β ^ 4 + β ^ 3 + β ^ 2 + 1

/-- A byte as the polynomial in β whose coefficients are its bits. -/
def byteIn (β : K) (a : Byte) : K := ∑ i ∈ Finset.range 8, if a.getLsbD i then β ^ i else 0

@[simp] theorem byteIn_zero (β : K) : byteIn β 0#8 = 0 := by
  simp [byteIn]

@[simp] theorem byteIn_one (β : K) : byteIn β 1#8 = 1 := by
  simp [byteIn]

variable [CharP K 2]

@[simp] theorem byteIn_xor (β : K) (a b : Byte) : byteIn β (a ^^^ b) = byteIn β a + byteIn β b := by
  rw [byteIn, byteIn, byteIn, ← Finset.sum_add_distrib]
  refine Finset.sum_congr rfl fun i _ => ?_
  rw [BitVec.getLsbD_xor]
  cases a.getLsbD i <;> cases b.getLsbD i <;> simp [CharTwo.add_self_eq_zero]

variable {β : K}

omit [CharP K 2] in
/-- A shift left is a product with β, but for the bit it drops. -/
theorem byteIn_shiftLeft (a : Byte) :
    byteIn β (a <<< 1) + (if a.msb then β ^ 8 else 0) = β * byteIn β a := by
  have hbit : ∀ i < 7, (a <<< 1).getLsbD (i + 1) = a.getLsbD i := by
    intro i hi
    rw [BitVec.getLsbD_shiftLeft]
    simp [show i + 1 < 8 by omega]
  have hlow : (a <<< 1).getLsbD 0 = false := by simp
  have hmsb : a.msb = a.getLsbD 7 := BitVec.msb_eq_getLsbD_last a
  rw [byteIn, Finset.sum_range_succ', hlow, hmsb, byteIn, Finset.sum_range_succ _ 7, mul_add, Finset.mul_sum]
  simp only [Bool.false_eq_true, if_false, add_zero, mul_ite, mul_zero, ← pow_succ']
  refine congrArg (· + _) (Finset.sum_congr rfl fun i hi => ?_)
  rw [hbit i (Finset.mem_range.mp hi)]

theorem byteIn_mulAlpha (hβ : IsByteRoot β) (a : Byte) : byteIn β (mulAlpha a) = β * byteIn β a := by
  have hreduce : byteIn β 0x1D#8 = β ^ 8 := by
    rw [show β ^ 8 = _ from hβ]
    simp [byteIn, Finset.sum_range_succ]
    ring
  rw [← byteIn_shiftLeft, mulAlpha]
  split
  · rw [byteIn_xor, hreduce]
  · rw [add_zero]

/-- Horner's rule over the bits of the second factor. -/
theorem byteIn_gmulBits (hβ : IsByteRoot β) (a b : Byte) (n : Nat) (acc : Byte) :
    byteIn β (gmulBits a b n acc) =
      β ^ n * byteIn β acc + byteIn β a * ∑ i ∈ Finset.range n, if b.getLsbD i then β ^ i else 0 := by
  induction n generalizing acc with
  | zero => simp [gmulBits]
  | succ n ih =>
    rw [gmulBits, ih, byteIn_xor, byteIn_mulAlpha hβ, Finset.sum_range_succ]
    split
    · ring
    · rw [byteIn_zero]
      ring

theorem byteIn_gmul (hβ : IsByteRoot β) (a b : Byte) : byteIn β (gmul a b) = byteIn β a * byteIn β b := by
  rw [gmul, byteIn_gmulBits hβ, byteIn_zero, mul_zero, zero_add, ← byteIn]

theorem byteIn_alphaPow (hβ : IsByteRoot β) (k : Nat) : byteIn β (alphaPow k) = β ^ k := by
  induction k with
  | zero => simp [alphaPow]
  | succ k ih => rw [alphaPow, byteIn_mulAlpha hβ, ih, pow_succ']

omit [CharP K 2] in
theorem IsByteRoot.ne_zero (hβ : IsByteRoot β) : β ≠ 0 := by
  rintro rfl
  simp [IsByteRoot] at hβ

/-- Only the byte 0 is 0, as every other one is a power of β. -/
theorem byteIn_eq_zero_iff (hβ : IsByteRoot β) (a : Byte) : byteIn β a = 0 ↔ a = 0#8 := by
  refine ⟨fun h => ?_, fun h => h ▸ byteIn_zero β⟩
  by_contra ha
  obtain ⟨k, rfl⟩ := exists_alphaPow a ha
  rw [byteIn_alphaPow hβ] at h
  exact pow_ne_zero k hβ.ne_zero h

theorem byteIn_injective (hβ : IsByteRoot β) : Function.Injective (byteIn β) := by
  intro a b hab
  have hsum : byteIn β (a ^^^ b) = 0 := by rw [byteIn_xor, hab, CharTwo.add_self_eq_zero]
  exact BitVec.xor_eq_zero_iff.mp ((byteIn_eq_zero_iff hβ _).mp hsum)

/-- The order of α is 255, so the locators of a block are distinct. -/
theorem IsByteRoot.pow_injOn (hβ : IsByteRoot β) : Set.InjOn (β ^ ·) (Set.Iio 255) :=
  ((byteIn_injective hβ).comp_injOn alphaPow_injOn).congr fun k _ => byteIn_alphaPow hβ k

theorem byteIn_squaringProduct (hβ : IsByteRoot β) (n : Nat) (power acc : Byte) :
    byteIn β (squaringProduct n power acc) = byteIn β acc * byteIn β power ^ (2 ^ (n + 1) - 2) := by
  induction n generalizing power acc with
  | zero => simp [squaringProduct]
  | succ n ih =>
    have hexponent : 2 ^ (n + 1 + 1) - 2 = 2 + 2 * (2 ^ (n + 1) - 2) := by
      have := Nat.one_le_two_pow (n := n)
      rw [pow_succ 2 (n + 1), pow_succ 2 n]
      omega
    rw [squaringProduct, ih, byteIn_gmul hβ, byteIn_gmul hβ, hexponent, pow_add (byteIn β power),
      pow_mul (byteIn β power), pow_two, mul_assoc]

theorem IsByteRoot.pow_255 (hβ : IsByteRoot β) : β ^ 255 = 1 := by
  rw [← byteIn_alphaPow hβ, alphaPow_255, byteIn_one]

/-- The model's inverse a^254 is the field's, as a^255 = 1 for every a but 0. -/
theorem byteIn_ginv (hβ : IsByteRoot β) (a : Byte) : byteIn β (ginv a) = (byteIn β a)⁻¹ := by
  rw [ginv, byteIn_squaringProduct hβ, byteIn_one, one_mul]
  by_cases ha : a = 0#8
  · simp [ha]
  · obtain ⟨k, rfl⟩ := exists_alphaPow a ha
    refine eq_inv_of_mul_eq_one_left ?_
    rw [← pow_succ, byteIn_alphaPow hβ, pow_right_comm]
    exact (congrArg (· ^ k) hβ.pow_255).trans (one_pow k)

theorem byteIn_gdiv (hβ : IsByteRoot β) (a b : Byte) : byteIn β (gdiv a b) = byteIn β a / byteIn β b := by
  rw [gdiv, byteIn_gmul hβ, byteIn_ginv hβ, div_eq_mul_inv]

end

/-- Such a field and root: an algebraically closed field of characteristic 2 has a root of every polynomial. -/
theorem exists_isByteRoot : ∃ β : AlgebraicClosure (ZMod 2), IsByteRoot β := by
  have hdegree : (.X ^ 8 - (.X ^ 4 + .X ^ 3 + .X ^ 2 + 1) : Polynomial (AlgebraicClosure (ZMod 2))).degree = 8 := by
    compute_degree!
  obtain ⟨β, hβ⟩ := IsAlgClosed.exists_root _ (hdegree.trans_ne (by decide))
  refine ⟨β, sub_eq_zero.mp ?_⟩
  simpa [Polynomial.IsRoot] using hβ

end Sys2Proof.Machine
end

section
/-! SUPPORT. The polynomials of the block decoder (42_rs_deinterleaver.md R173): a coefficient list is a polynomial over
the field, and the model's operations on lists are the polynomials' own. -/

namespace Sys2Proof.Machine

open Polynomial

section
variable {K : Type*} [Field K]

/-- The polynomial of a list of coefficients, constant coefficient first. -/
noncomputable def polyIn (β : K) : List Byte → Polynomial K
  | [] => 0
  | a :: p => C (byteIn β a) + X * polyIn β p

theorem coeff_polyIn (β : K) (p : List Byte) (i : Nat) : (polyIn β p).coeff i = byteIn β (p.getD i 0#8) := by
  induction p generalizing i with
  | nil => simp [polyIn]
  | cons a p ih =>
    cases i with
    | zero => simp [polyIn]
    | succ i => simp [polyIn, ih]

variable [CharP K 2] {β : K}

theorem polyIn_polyAdd (p q : List Byte) : polyIn β (polyAdd p q) = polyIn β p + polyIn β q := by
  induction p generalizing q with
  | nil => simp [polyAdd, polyIn]
  | cons a p ih =>
    cases q with
    | nil => simp [polyAdd, polyIn]
    | cons b q =>
      simp only [polyAdd, polyIn, ih, byteIn_xor, C_add]
      ring

theorem polyIn_polyScale (hβ : IsByteRoot β) (k : Byte) (p : List Byte) :
    polyIn β (polyScale k p) = C (byteIn β k) * polyIn β p := by
  induction p with
  | nil => simp [polyScale, polyIn]
  | cons a p ih =>
    rw [polyScale] at ih
    simp only [polyScale, List.map_cons, polyIn, ih, byteIn_gmul hβ, C_mul]
    ring

omit [CharP K 2] in
theorem polyIn_polyShift (m : Nat) (p : List Byte) : polyIn β (polyShift m p) = X ^ m * polyIn β p := by
  induction m with
  | zero => simp [polyShift]
  | succ m ih =>
    have hshift : polyShift (m + 1) p = 0#8 :: polyShift m p := rfl
    rw [hshift, polyIn, ih, byteIn_zero, C_0, zero_add, ← mul_assoc, pow_succ']

theorem coeff_polyIn_polyMulTrunc (hβ : IsByteRoot β) (n : Nat) (p q : List Byte) (i : Nat) :
    (polyIn β (polyMulTrunc n p q)).coeff i = if i < n then (polyIn β p * polyIn β q).coeff i else 0 := by
  induction p generalizing i with
  | nil => simp [polyMulTrunc, polyIn]
  | cons a p ih =>
    have htake : ∀ l : List Byte, (polyIn β (l.take n)).coeff i = if i < n then (polyIn β l).coeff i else 0 := by
      intro l
      rw [coeff_polyIn, coeff_polyIn, List.getD_eq_getElem?_getD, List.getElem?_take, List.getD_eq_getElem?_getD]
      split <;> simp
    rw [polyMulTrunc, htake]
    by_cases hi : i < n
    · rw [if_pos hi, if_pos hi, polyIn_polyAdd, polyIn_polyScale hβ, polyIn, polyIn, byteIn_zero, C_0, zero_add,
        add_mul, mul_assoc, coeff_add, coeff_add]
      cases i with
      | zero => simp
      | succ i => rw [coeff_X_mul, coeff_X_mul, ih, if_pos (by omega)]
    · rw [if_neg hi, if_neg hi]

/-- In characteristic 2 the even terms of the derivative are gone and the odd ones lose their factor. -/
theorem polyIn_polyDerivative (p : List Byte) : polyIn β (polyDerivative p) = derivative (polyIn β p) := by
  ext i
  rw [coeff_polyIn, coeff_derivative, coeff_polyIn]
  by_cases hi : i < p.length - 1
  · have hfactor : ((i : K) + 1) = if i % 2 = 0 then 1 else 0 := by
      rcases Nat.even_or_odd' i with ⟨m, rfl | rfl⟩
      · simp [CharTwo.two_eq_zero]
      · simp [CharTwo.two_eq_zero, one_add_one_eq_two]
    rw [hfactor, polyDerivative]
    simp only [List.getD_eq_getElem?_getD, List.getElem?_map, List.getElem?_range hi, Option.map_some, Option.getD_some]
    split <;> simp
  · rw [List.getD_eq_default _ _ (by simpa [polyDerivative] using hi), List.getD_eq_default p _ (by omega)]
    simp

theorem byteIn_evalLowFirst (hβ : IsByteRoot β) (p : List Byte) (x : Byte) :
    byteIn β (evalLowFirst p x) = (polyIn β p).eval (byteIn β x) := by
  induction p with
  | nil => simp [evalLowFirst, polyIn]
  | cons a p ih =>
    rw [evalLowFirst] at ih
    rw [evalLowFirst, List.foldr_cons, byteIn_xor, byteIn_gmul hβ, ih, polyIn, eval_add, eval_C, eval_mul, eval_X,
      mul_comm]

theorem byteIn_evalHighFirst (hβ : IsByteRoot β) (c : List Byte) (x : Byte) :
    byteIn β (evalHighFirst c x) =
      ∑ p ∈ Finset.range c.length, byteIn β (c.getD p 0#8) * byteIn β x ^ (c.length - 1 - p) := by
  induction c using List.reverseRecOn with
  | nil => simp [evalHighFirst]
  | append_singleton c a ih =>
    rw [evalHighFirst] at ih
    rw [evalHighFirst, List.foldl_append, List.foldl_cons, List.foldl_nil, byteIn_xor, byteIn_gmul hβ, ih,
      List.length_append, List.length_singleton, Finset.sum_range_succ, Finset.sum_mul]
    refine congrArg₂ (· + ·) (Finset.sum_congr rfl fun p hp => ?_) ?_
    · have hlt := Finset.mem_range.mp hp
      rw [List.getD_append _ _ _ _ hlt, mul_assoc, ← pow_succ,
        show c.length - 1 - p + 1 = c.length + 1 - 1 - p by omega]
    · rw [List.getD_append_right _ _ _ _ le_rfl]
      simp

end

end Sys2Proof.Machine
end

section
/-! SUPPORT. Errors and their locators, over any field (42_rs_deinterleaver.md R173, R174): at each place p of a finite
set an error e p with locator x p, the power sums of the errors, and the polynomial whose roots are the inverse
locators. -/

namespace Sys2Proof.Machine

open Polynomial

section
variable {K : Type*} [Field K] {places : Finset ℕ} {x e : ℕ → K}

/-- Errors whose first power sums are 0, as many as there are places, are none: their sum against the polynomial that is
0 at every locator but one is 0. -/
theorem eq_zero_of_power_sums (hx : Set.InjOn x places)
    (hsums : ∀ i < places.card, ∑ p ∈ places, e p * x p ^ i = 0) : ∀ p ∈ places, e p = 0 := by
  intro p hp
  set f : Polynomial K := ∏ q ∈ places.erase p, (X - C (x q)) with hf
  have hdegree : f.natDegree < places.card := by
    rw [hf, natDegree_finsetProd_X_sub_C_eq_card, Finset.card_erase_of_mem hp]
    exact Nat.sub_lt (Finset.card_pos.mpr ⟨p, hp⟩) one_pos
  have hsum : ∑ q ∈ places, e q * f.eval (x q) = 0 := by
    simp only [eval_eq_sum_range' hdegree, Finset.mul_sum]
    rw [Finset.sum_comm]
    refine Finset.sum_eq_zero fun i hi => ?_
    calc ∑ q ∈ places, e q * (f.coeff i * x q ^ i) = f.coeff i * ∑ q ∈ places, e q * x q ^ i := by
          rw [Finset.mul_sum]
          exact Finset.sum_congr rfl fun q _ => by ring
      _ = 0 := by rw [hsums i (Finset.mem_range.mp hi), mul_zero]
  have hother : ∀ q ∈ places, q ≠ p → e q * f.eval (x q) = 0 := by
    intro q hq hqp
    rw [hf, eval_prod, Finset.prod_eq_zero (Finset.mem_erase.mpr ⟨hqp, hq⟩) (by simp), mul_zero]
  rw [Finset.sum_eq_single_of_mem p hp hother] at hsum
  refine (mul_eq_zero.mp hsum).resolve_right ?_
  rw [hf, eval_prod]
  refine Finset.prod_ne_zero_iff.mpr fun q hq => ?_
  obtain ⟨hqp, hq⟩ := Finset.mem_erase.mp hq
  rw [eval_sub, eval_X, eval_C, sub_ne_zero]
  exact fun heq => hqp (hx hp hq heq).symm

/-- The polynomial with constant coefficient 1 whose roots are the inverse locators. -/
noncomputable def locatorOf (x : ℕ → K) (places : Finset ℕ) : Polynomial K := ∏ p ∈ places, (1 - C (x p) * X)

theorem locatorOf_eq_mul_erase {p : ℕ} (hp : p ∈ places) :
    locatorOf x places = (1 - C (x p) * X) * locatorOf x (places.erase p) :=
  (Finset.mul_prod_erase places _ hp).symm

theorem coeff_zero_locatorOf : (locatorOf x places).coeff 0 = 1 := by
  rw [coeff_zero_eq_eval_zero, locatorOf, eval_prod]
  exact Finset.prod_eq_one fun p _ => by simp

theorem natDegree_locatorOf_le : (locatorOf x places).natDegree ≤ places.card := by
  refine (natDegree_prod_le _ _).trans ?_
  rw [Finset.card_eq_sum_ones]
  exact Finset.sum_le_sum fun p _ => by compute_degree

/-- Where the locators are distinct, the inverse of the locator of q is a root exactly when q is one of the places. -/
theorem eval_locatorOf_eq_zero_iff (q : ℕ) (hq : x q ≠ 0) (hx : ∀ p ∈ places, x p = x q → p = q) :
    (locatorOf x places).eval (x q)⁻¹ = 0 ↔ q ∈ places := by
  rw [locatorOf, eval_prod, Finset.prod_eq_zero_iff]
  constructor
  · rintro ⟨p, hp, hroot⟩
    rw [eval_sub, eval_one, eval_mul, eval_C, eval_X, sub_eq_zero, eq_comm, mul_inv_eq_one₀ hq] at hroot
    exact hx p hp hroot ▸ hp
  · exact fun h => ⟨q, h, by simp [hq]⟩

/-- The derivative at the inverse locator of a place, where only the factor of that place is 0. -/
theorem eval_derivative_locatorOf {p : ℕ} (hp : p ∈ places) (hxp : x p ≠ 0) :
    (derivative (locatorOf x places)).eval (x p)⁻¹ = -x p * (locatorOf x (places.erase p)).eval (x p)⁻¹ := by
  rw [locatorOf_eq_mul_erase hp, derivative_mul]
  simp [hxp]

/-- A polynomial of the locator's degree and constant coefficient that shares its roots is the locator. -/
theorem eq_locatorOf (hx : Set.InjOn x places) (hne : ∀ p ∈ places, x p ≠ 0) (f : Polynomial K)
    (hdegree : f.natDegree ≤ places.card) (hconstant : f.coeff 0 = 1) (hroots : ∀ p ∈ places, f.eval (x p)⁻¹ = 0) :
    f = locatorOf x places := by
  classical
  have hinverse : Set.InjOn (fun p => (x p)⁻¹) places := fun p hp q hq heq => hx hp hq (inv_injective heq)
  set points : Finset K := insert 0 (places.image fun p => (x p)⁻¹) with hpoints
  have hcard : places.card < points.card := by
    rw [hpoints, Finset.card_insert_of_notMem, Finset.card_image_of_injOn hinverse]
    · exact Nat.lt_succ_self _
    · simpa using hne
  refine eq_of_degrees_lt_of_eval_finset_eq points ?_ ?_ ?_
  · exact degree_le_natDegree.trans_lt (Nat.cast_lt.mpr (hdegree.trans_lt hcard))
  · exact degree_le_natDegree.trans_lt (Nat.cast_lt.mpr (natDegree_locatorOf_le.trans_lt hcard))
  · intro y hy
    rcases Finset.mem_insert.mp hy with rfl | hy
    · rw [← coeff_zero_eq_eval_zero, ← coeff_zero_eq_eval_zero, hconstant, coeff_zero_locatorOf]
    · obtain ⟨p, hp, rfl⟩ := Finset.mem_image.mp hy
      rw [hroots p hp, (eval_locatorOf_eq_zero_iff p (hne p hp) fun q hq heq => hx hq hp heq).mpr hp]

/-- The first n coefficients are the power sums of the errors. -/
def IsSyndrome (n : ℕ) (places : Finset ℕ) (x e : ℕ → K) (s : Polynomial K) : Prop :=
  ∀ i < n, s.coeff i = ∑ p ∈ places, e p * x p ^ i

/-- From its degree on, a polynomial times the syndromes has the power sums of the errors weighted by its values at the
inverse locators. -/
theorem IsSyndrome.coeff_mul {n : ℕ} {s : Polynomial K} (hs : IsSyndrome n places x e s)
    (hne : ∀ p ∈ places, x p ≠ 0) (f : Polynomial K) (i : ℕ) (hdegree : f.natDegree ≤ i) (hi : i < n) :
    (f * s).coeff i = ∑ p ∈ places, e p * f.eval (x p)⁻¹ * x p ^ i := by
  have hterm : ∀ p ∈ places, ∀ j ∈ Finset.range (i + 1),
      f.coeff j * (e p * x p ^ (i - j)) = e p * (f.coeff j * (x p)⁻¹ ^ j) * x p ^ i := by
    intro p hp j hj
    have hsplit : x p ^ i = x p ^ j * x p ^ (i - j) := by
      rw [← pow_add, Nat.add_sub_cancel' (Nat.lt_succ_iff.mp (Finset.mem_range.mp hj))]
    have hcancel : (x p)⁻¹ ^ j * x p ^ j = 1 := by rw [← mul_pow, inv_mul_cancel₀ (hne p hp), one_pow]
    calc f.coeff j * (e p * x p ^ (i - j)) = f.coeff j * e p * x p ^ (i - j) * ((x p)⁻¹ ^ j * x p ^ j) := by
          rw [hcancel]; ring
      _ = e p * (f.coeff j * (x p)⁻¹ ^ j) * x p ^ i := by rw [hsplit]; ring
  rw [Polynomial.coeff_mul, Finset.Nat.sum_antidiagonal_eq_sum_range_succ fun a b => f.coeff a * s.coeff b]
  calc ∑ j ∈ Finset.range (i + 1), f.coeff j * s.coeff (i - j)
      = ∑ j ∈ Finset.range (i + 1), ∑ p ∈ places, f.coeff j * (e p * x p ^ (i - j)) :=
        Finset.sum_congr rfl fun j _ => by rw [hs (i - j) (by omega), Finset.mul_sum]
    _ = ∑ p ∈ places, ∑ j ∈ Finset.range (i + 1), e p * (f.coeff j * (x p)⁻¹ ^ j) * x p ^ i := by
        rw [Finset.sum_comm]
        exact Finset.sum_congr rfl fun p hp => Finset.sum_congr rfl (hterm p hp)
    _ = ∑ p ∈ places, e p * f.eval (x p)⁻¹ * x p ^ i := by
        refine Finset.sum_congr rfl fun p _ => ?_
        rw [eval_eq_sum_range' (Nat.lt_succ_of_le hdegree), Finset.mul_sum, Finset.sum_mul]

/-- The locator times the syndromes is 0 from the number of errors on. -/
theorem IsSyndrome.coeff_locatorOf_mul {n : ℕ} {s : Polynomial K} (hs : IsSyndrome n places x e s)
    (hx : Set.InjOn x places) (hne : ∀ p ∈ places, x p ≠ 0) (i : ℕ) (hcard : places.card ≤ i) (hi : i < n) :
    (locatorOf x places * s).coeff i = 0 := by
  rw [hs.coeff_mul hne _ i (natDegree_locatorOf_le.trans hcard) hi]
  refine Finset.sum_eq_zero fun p hp => ?_
  rw [(eval_locatorOf_eq_zero_iff p (hne p hp) fun q hq heq => hx hq hp heq).mpr hp, mul_zero, zero_mul]

/-- A polynomial with constant coefficient 1 and at most the locator's degree, whose product with the syndromes is 0
from its degree on for twice as many syndromes as errors, is the locator: the errors weighted by its values at the
inverse locators have enough power sums 0. -/
theorem IsSyndrome.eq_locatorOf {n : ℕ} {s : Polynomial K} (hs : IsSyndrome n places x e s)
    (hx : Set.InjOn x places) (hne : ∀ p ∈ places, x p ≠ 0) (he : ∀ p ∈ places, e p ≠ 0) (hn : 2 * places.card ≤ n)
    (f : Polynomial K) (length : ℕ) (hlength : length ≤ places.card) (hdegree : f.natDegree ≤ length)
    (hconstant : f.coeff 0 = 1) (hzero : ∀ i, length ≤ i → i < n → (f * s).coeff i = 0) :
    f = locatorOf x places := by
  refine Sys2Proof.Machine.eq_locatorOf hx hne f (hdegree.trans hlength) hconstant fun p hp => ?_
  have hweighted := eq_zero_of_power_sums (e := fun p => e p * f.eval (x p)⁻¹ * x p ^ length) hx ?_ p hp
  · simpa [he p hp, hne p hp] using hweighted
  · intro i hi
    rw [← hzero (length + i) (Nat.le_add_right _ _) (by omega),
      hs.coeff_mul hne f _ (hdegree.trans (Nat.le_add_right _ _)) (by omega)]
    exact Finset.sum_congr rfl fun p _ => by rw [mul_assoc, ← pow_add]

/-- The error evaluator: each error times the factors of the other places. -/
noncomputable def evaluatorOf (x e : ℕ → K) (places : Finset ℕ) : Polynomial K :=
  ∑ p ∈ places, C (e p) * locatorOf x (places.erase p)

theorem coeff_evaluatorOf_of_card_le {i : ℕ} (h : places.card ≤ i) : (evaluatorOf x e places).coeff i = 0 := by
  rw [evaluatorOf, finsetSum_coeff]
  refine Finset.sum_eq_zero fun p hp => ?_
  have hpos := Finset.card_pos.mpr ⟨p, hp⟩
  have hdegree : (locatorOf x (places.erase p)).natDegree ≤ places.card - 1 := by
    rw [← Finset.card_erase_of_mem hp]
    exact natDegree_locatorOf_le
  rw [coeff_C_mul, coeff_eq_zero_of_natDegree_lt (by omega), mul_zero]

/-- At the inverse locator of a place only its own term is left. -/
theorem eval_evaluatorOf {p : ℕ} (hp : p ∈ places) (hxp : x p ≠ 0) :
    (evaluatorOf x e places).eval (x p)⁻¹ = e p * (locatorOf x (places.erase p)).eval (x p)⁻¹ := by
  rw [evaluatorOf, eval_finsetSum, Finset.sum_eq_single_of_mem p hp, eval_mul, eval_C]
  intro q _ hqp
  rw [eval_mul, locatorOf_eq_mul_erase (Finset.mem_erase.mpr ⟨hqp.symm, hp⟩)]
  simp [hxp]

/-- The key equation: the locator times the syndromes is the evaluator, up to the number of syndromes. -/
theorem IsSyndrome.coeff_key_equation {n : ℕ} {s : Polynomial K} (hs : IsSyndrome n places x e s) (i : ℕ) (hi : i < n) :
    (locatorOf x places * s).coeff i = (evaluatorOf x e places).coeff i := by
  have hgeom : ∀ p ∈ places, locatorOf x places * ∑ j ∈ Finset.range n, (C (x p) * X) ^ j =
      locatorOf x (places.erase p) * (1 - C (x p ^ n) * X ^ n) := by
    intro p hp
    rw [locatorOf_eq_mul_erase hp, mul_comm (1 - C (x p) * X), mul_assoc, mul_neg_geom_sum, mul_pow, C_pow]
  have hcoeff : ∀ j < n, (∑ p ∈ places, C (e p) * ∑ j ∈ Finset.range n, (C (x p) * X) ^ j).coeff j = s.coeff j := by
    intro j hj
    simp only [hs j hj, finsetSum_coeff, coeff_C_mul, mul_pow, ← C_pow, coeff_X_pow]
    simp [hj]
  have hlow : (locatorOf x places * s).coeff i =
      (locatorOf x places * ∑ p ∈ places, C (e p) * ∑ j ∈ Finset.range n, (C (x p) * X) ^ j).coeff i := by
    rw [Polynomial.coeff_mul, Polynomial.coeff_mul]
    refine Finset.sum_congr rfl fun ab hab => ?_
    have := Finset.HasAntidiagonal.mem_antidiagonal.mp hab
    rw [hcoeff ab.2 (by omega)]
  rw [hlow, evaluatorOf, Finset.mul_sum, finsetSum_coeff, finsetSum_coeff]
  refine Finset.sum_congr rfl fun p hp => ?_
  rw [mul_left_comm, hgeom p hp, coeff_C_mul, coeff_C_mul, mul_sub, mul_one, coeff_sub, ← mul_assoc, coeff_mul_X_pow',
    if_neg (by omega), sub_zero]

end

end Sys2Proof.Machine
end

section
/-! SUPPORT. Berlekamp-Massey (42_rs_deinterleaver.md R174; log entry 11): what holds of its variables after every
round, and the locator it ends with. -/

namespace Sys2Proof.Machine

open Polynomial

section
variable {K : Type*} [Field K]

/-- Where the second factor is 0 on the whole window the first one reaches below k, only its coefficient k counts. -/
theorem coeff_mul_of_window (f g : Polynomial K) (a k : ℕ) (hf : f.natDegree ≤ a)
    (hg : ∀ j < k, k ≤ j + a → g.coeff j = 0) : (f * g).coeff k = f.coeff 0 * g.coeff k := by
  rw [Polynomial.coeff_mul, Finset.Nat.sum_antidiagonal_eq_sum_range_succ fun i j => f.coeff i * g.coeff j]
  refine (Finset.sum_eq_single_of_mem 0 (by simp) fun i hi hi0 => ?_).trans (by rw [Nat.sub_zero])
  by_cases hdegree : i ≤ a
  · have hik := Finset.mem_range.mp hi
    rw [hg (k - i) (by omega) (by omega), mul_zero]
  · rw [coeff_eq_zero_of_natDegree_lt (by omega), zero_mul]

/-- Massey's bound: if one polynomial times s is 0 from a on up to a nonzero coefficient k, and another one, with
constant coefficient 1, times s is 0 from b on through k, then a + b is above k. -/
theorem lt_add_of_discrepancy (f g s : Polynomial K) (a b k : ℕ) (hf : f.natDegree ≤ a) (hg : g.natDegree ≤ b)
    (hg0 : g.coeff 0 = 1) (hfs : ∀ i, a ≤ i → i < k → (f * s).coeff i = 0)
    (hgs : ∀ i, b ≤ i → i ≤ k → (g * s).coeff i = 0) (hne : (f * s).coeff k ≠ 0) : k < a + b := by
  by_contra hle
  have hfirst : (g * (f * s)).coeff k = (f * s).coeff k := by
    rw [coeff_mul_of_window g (f * s) b k hg fun j hj hkj => hfs j (by omega) hj, hg0, one_mul]
  have hsecond : (f * (g * s)).coeff k = 0 := by
    rw [coeff_mul_of_window f (g * s) a k hf fun j hj hkj => hgs j (by omega) hj.le, hgs k (by omega) le_rfl, mul_zero]
  rw [mul_left_comm, hsecond] at hfirst
  exact hne hfirst.symm

/-- x^m·B, what a round subtracts a multiple of. -/
noncomputable def shiftedPrevious (β : K) (v : Berlekamp) : Polynomial K := X ^ v.gap * polyIn β v.previous

/-- After k rounds: Λ has constant coefficient 1 and degree at most L, and times the syndromes is 0 at L to k - 1; so is
x^m·B, with k + 1 - L in place of L, and its coefficient k is b, unless L is still 0; L is at most the bound. -/
structure BerlekampInv (β : K) (s : Polynomial K) (bound k : ℕ) (v : Berlekamp) : Prop where
  constant : (polyIn β v.locator).coeff 0 = 1
  degree : (polyIn β v.locator).natDegree ≤ v.length
  zero : ∀ i, v.length ≤ i → i < k → (polyIn β v.locator * s).coeff i = 0
  length_le_round : v.length ≤ k
  length_le_bound : v.length ≤ bound
  previous_constant : (shiftedPrevious β v).coeff 0 = 0
  previous_degree : (shiftedPrevious β v).natDegree ≤ k + 1 - v.length
  previous_zero : ∀ i, k + 1 - v.length ≤ i → i < k → (shiftedPrevious β v * s).coeff i = 0
  previous_coeff : v.length = 0 ∨ (shiftedPrevious β v * s).coeff k = byteIn β v.discrepancy
  discrepancy_ne : v.discrepancy ≠ 0#8

theorem berlekampInv_start (β : K) (s : Polynomial K) (bound : ℕ) :
    BerlekampInv β s bound 0 ⟨[1#8], [1#8], 0, 1, 1#8⟩ where
  constant := by simp [polyIn]
  degree := by simp [polyIn]
  zero := by simp
  length_le_round := le_rfl
  length_le_bound := Nat.zero_le _
  previous_constant := by simp [shiftedPrevious, polyIn]
  previous_degree := by simp [shiftedPrevious, polyIn]
  previous_zero := by simp
  previous_coeff := Or.inl rfl
  discrepancy_ne := by simp

variable [CharP K 2] {β : K}

theorem byteIn_foldl_xor (f : ℕ → Byte) (n : ℕ) :
    byteIn β ((List.range n).foldl (fun acc i => acc ^^^ f i) 0#8) = ∑ i ∈ Finset.range n, byteIn β (f i) := by
  induction n with
  | zero => simp
  | succ n ih => rw [List.range_succ, List.foldl_append, List.foldl_cons, List.foldl_nil, byteIn_xor, ih,
      Finset.sum_range_succ]

omit [CharP K 2] in
theorem sum_range_succ_eq_of_zero_above (f : ℕ → K) (a b : ℕ) (ha : ∀ i, a < i → f i = 0) (hb : ∀ i, b < i → f i = 0) :
    ∑ i ∈ Finset.range (a + 1), f i = ∑ i ∈ Finset.range (b + 1), f i := by
  have hextend : ∀ n ≤ max a b, (∀ i, n < i → f i = 0) →
      ∑ i ∈ Finset.range (n + 1), f i = ∑ i ∈ Finset.range (max a b + 1), f i := fun n hn hzero =>
    Finset.sum_subset (Finset.range_mono (Nat.succ_le_succ hn)) fun i _ hi =>
      hzero i (by rw [Finset.mem_range] at hi; omega)
  rw [hextend a (le_max_left a b) ha, hextend b (le_max_right a b) hb]

/-- The discrepancy of round k is coefficient k of Λ times the syndromes: past L the locator has no coefficient. -/
theorem byteIn_discrepancyAt (hβ : IsByteRoot β) (synd : List Byte) (v : Berlekamp) (k : ℕ)
    (hdegree : (polyIn β v.locator).natDegree ≤ v.length) :
    byteIn β (discrepancyAt synd v k) = (polyIn β v.locator * polyIn β synd).coeff k := by
  rw [discrepancyAt, byteIn_foldl_xor, Polynomial.coeff_mul, Finset.Nat.sum_antidiagonal_eq_sum_range_succ
    fun i j => (polyIn β v.locator).coeff i * (polyIn β synd).coeff j]
  refine (sum_range_succ_eq_of_zero_above _ v.length k (fun i hi => ?_) fun i hi => ?_).trans
    (Finset.sum_congr rfl fun i hi => ?_)
  · rw [byteIn_gmul hβ, ← coeff_polyIn, coeff_eq_zero_of_natDegree_lt (hdegree.trans_lt hi), zero_mul]
  · rw [byteIn_gmul hβ, if_neg (Nat.not_le.mpr hi), byteIn_zero, mul_zero]
  · rw [byteIn_gmul hβ, if_pos (Nat.lt_succ_iff.mp (Finset.mem_range.mp hi)), coeff_polyIn, coeff_polyIn]

theorem polyIn_corrected (hβ : IsByteRoot β) (v : Berlekamp) (d : Byte) :
    polyIn β (corrected v d) =
      polyIn β v.locator + C (byteIn β d / byteIn β v.discrepancy) * shiftedPrevious β v := by
  rw [corrected, polyIn_polyAdd, polyIn_polyScale hβ, polyIn_polyShift, byteIn_gdiv hβ, shiftedPrevious]

/-- The corrected locator after round k, whatever L becomes: constant coefficient, degree, and the coefficients that the
discrepancy of the round no longer breaks. -/
theorem BerlekampInv.corrected_locator {s : Polynomial K} {bound k : ℕ} {v : Berlekamp} (hβ : IsByteRoot β)
    (h : BerlekampInv β s bound k v) (d : Byte) (hd : byteIn β d = (polyIn β v.locator * s).coeff k) (length : ℕ)
    (hlength : v.length ≤ length) (hprevious : k + 1 - v.length ≤ length) :
    (polyIn β (corrected v d)).coeff 0 = 1 ∧ (polyIn β (corrected v d)).natDegree ≤ length ∧
      ∀ i, length ≤ i → i < k + 1 → (polyIn β (corrected v d) * s).coeff i = 0 := by
  rw [polyIn_corrected hβ]
  refine ⟨?_, ?_, fun i hi hik => ?_⟩
  · rw [coeff_add, coeff_C_mul, h.constant, h.previous_constant, mul_zero, add_zero]
  · exact natDegree_add_le_of_degree_le (h.degree.trans hlength)
      ((natDegree_C_mul_le _ _).trans (h.previous_degree.trans hprevious))
  · rw [add_mul, coeff_add, mul_assoc, coeff_C_mul]
    rcases Nat.lt_succ_iff_lt_or_eq.mp hik with hlt | rfl
    · rw [h.zero i (by omega) hlt, h.previous_zero i (by omega) hlt, mul_zero, add_zero]
    · have hlast := h.previous_coeff.resolve_left (by omega)
      have hne : byteIn β v.discrepancy ≠ 0 := fun hzero => h.discrepancy_ne ((byteIn_eq_zero_iff hβ _).mp hzero)
      rw [hlast, ← hd, div_mul_cancel₀ _ hne, CharTwo.add_self_eq_zero]

omit [CharP K 2] in
theorem shiftedPrevious_gap_succ (v : Berlekamp) (locator : List Byte) :
    shiftedPrevious β { v with locator := locator, gap := v.gap + 1 } = X * shiftedPrevious β v := by
  rw [shiftedPrevious, shiftedPrevious, pow_succ', mul_assoc]

omit [CharP K 2] in
/-- A round that keeps L and B keeps what is said of B, one place further on. -/
theorem BerlekampInv.keep_previous {s : Polynomial K} {bound k : ℕ} {v : Berlekamp} (h : BerlekampInv β s bound k v)
    (locator : List Byte) (hconstant : (polyIn β locator).coeff 0 = 1)
    (hdegree : (polyIn β locator).natDegree ≤ v.length)
    (hzero : ∀ i, v.length ≤ i → i < k + 1 → (polyIn β locator * s).coeff i = 0) :
    BerlekampInv β s bound (k + 1) { v with locator := locator, gap := v.gap + 1 } where
  constant := hconstant
  degree := hdegree
  zero := hzero
  length_le_round := h.length_le_round.trans (Nat.le_succ k)
  length_le_bound := h.length_le_bound
  previous_constant := by rw [shiftedPrevious_gap_succ, coeff_X_mul_zero]
  previous_degree := by
    have hround := h.length_le_round
    have hprevious := h.previous_degree
    have hshift := natDegree_mul_le_of_le natDegree_X_le hprevious
    rw [shiftedPrevious_gap_succ]
    change _ ≤ k + 1 + 1 - v.length
    omega
  previous_zero := fun i hi hik => by
    have hround := h.length_le_round
    change k + 1 + 1 - v.length ≤ i at hi
    obtain ⟨j, rfl⟩ : ∃ j, i = j + 1 := ⟨i - 1, by omega⟩
    rw [shiftedPrevious_gap_succ, mul_assoc, coeff_X_mul]
    exact h.previous_zero j (by omega) (by omega)
  previous_coeff := by
    rw [shiftedPrevious_gap_succ, mul_assoc, coeff_X_mul]
    exact h.previous_coeff
  discrepancy_ne := h.discrepancy_ne

/-- A round that lengthens Λ keeps the locator it had as B. -/
theorem BerlekampInv.lengthen {s : Polynomial K} {bound k : ℕ} {v : Berlekamp} (hβ : IsByteRoot β)
    (h : BerlekampInv β s bound k v) (d : Byte) (hd : byteIn β d = (polyIn β v.locator * s).coeff k) (hne : d ≠ 0#8)
    (hshort : 2 * v.length ≤ k) (hbound : k + 1 - v.length ≤ bound) :
    BerlekampInv β s bound (k + 1) ⟨corrected v d, v.locator, k + 1 - v.length, 1, d⟩ := by
  have hprevious : shiftedPrevious β ⟨corrected v d, v.locator, k + 1 - v.length, 1, d⟩ = X * polyIn β v.locator := by
    rw [shiftedPrevious, pow_one]
  obtain ⟨hconstant, hdegree, hzero⟩ := h.corrected_locator hβ d hd (k + 1 - v.length) (by omega) le_rfl
  refine ⟨hconstant, hdegree, hzero, Nat.sub_le _ _, hbound, ?_, ?_, fun i hi hik => ?_, Or.inr ?_, hne⟩ <;>
    rw [hprevious]
  · exact coeff_X_mul_zero _
  · have hshift := natDegree_mul_le_of_le natDegree_X_le h.degree
    change _ ≤ k + 1 + 1 - (k + 1 - v.length)
    omega
  · change k + 1 + 1 - (k + 1 - v.length) ≤ i at hi
    obtain ⟨j, rfl⟩ : ∃ j, i = j + 1 := ⟨i - 1, by omega⟩
    rw [mul_assoc, coeff_X_mul]
    exact h.zero j (by omega) (by omega)
  · rw [mul_assoc, coeff_X_mul]
    exact hd.symm

/-- One round keeps the invariant, if some polynomial with constant coefficient 1 and a degree within the bound times
the syndromes is 0 from the bound on: by Massey's bound L never passes it. -/
theorem BerlekampInv.round {synd : List Byte} {bound k : ℕ} {v : Berlekamp} (hβ : IsByteRoot β)
    (h : BerlekampInv β (polyIn β synd) bound k v) (g : Polynomial K) (hg0 : g.coeff 0 = 1) (hg : g.natDegree ≤ bound)
    (hgs : ∀ i, bound ≤ i → i ≤ k → (g * polyIn β synd).coeff i = 0) :
    BerlekampInv β (polyIn β synd) bound (k + 1) (berlekampRound synd v k) := by
  have hd := byteIn_discrepancyAt hβ synd v k h.degree
  set d := discrepancyAt synd v k with hdef
  have hround : berlekampRound synd v k =
      if d = 0#8 then { v with gap := v.gap + 1 }
      else if 2 * v.length ≤ k then ⟨corrected v d, v.locator, k + 1 - v.length, 1, d⟩
      else { v with locator := corrected v d, gap := v.gap + 1 } := rfl
  rw [hround]
  split
  · next hzero =>
    refine h.keep_previous v.locator h.constant h.degree fun i hi hik => ?_
    rcases Nat.lt_succ_iff_lt_or_eq.mp hik with hlt | rfl
    · exact h.zero i hi hlt
    · rw [← hd, hzero, byteIn_zero]
  · next hne =>
    split
    · next hshort =>
      have hnonzero : (polyIn β v.locator * polyIn β synd).coeff k ≠ 0 := by
        rwa [← hd, Ne, byteIn_eq_zero_iff hβ]
      have hmassey := lt_add_of_discrepancy _ g _ v.length bound k h.degree hg hg0 h.zero hgs hnonzero
      exact h.lengthen hβ d hd hne hshort (by omega)
    · next hlong =>
      obtain ⟨hconstant, hdegree, hzero⟩ := h.corrected_locator hβ d hd v.length le_rfl (by omega)
      exact h.keep_previous _ hconstant hdegree hzero

/-- Berlekamp-Massey finds the locator of at most floor(E/2) errors. -/
theorem polyIn_errorLocator (hβ : IsByteRoot β) (ec : ℕ) (synd : List Byte) {places : Finset ℕ} {x e : ℕ → K}
    (hs : IsSyndrome ec places x e (polyIn β synd)) (hx : Set.InjOn x places) (hxne : ∀ p ∈ places, x p ≠ 0)
    (hene : ∀ p ∈ places, e p ≠ 0) (hcard : 2 * places.card ≤ ec) :
    polyIn β (errorLocator ec synd) = locatorOf x places := by
  have hrun : ∀ k ≤ ec, BerlekampInv β (polyIn β synd) places.card k
      ((List.range k).foldl (berlekampRound synd) ⟨[1#8], [1#8], 0, 1, 1#8⟩) := by
    intro k hk
    induction k with
    | zero => exact berlekampInv_start β _ _
    | succ k ih =>
      rw [List.range_succ, List.foldl_append, List.foldl_cons, List.foldl_nil]
      exact (ih (by omega)).round hβ (locatorOf x places) coeff_zero_locatorOf natDegree_locatorOf_le
        fun i hi hik => hs.coeff_locatorOf_mul hx hxne i hi (by omega)
  have hend := hrun ec le_rfl
  exact hs.eq_locatorOf hx hxne hene hcard _ _ hend.length_le_bound hend.degree hend.constant hend.zero

end

end Sys2Proof.Machine
end

section
/-! SUPPORT. The code and its decoder (42_rs_deinterleaver.md R173, R174): the places where two words differ, what their
syndromes say of them, and the correction of each byte. -/

namespace Sys2Proof.Machine

open Polynomial

/-- The positions in which two words of r's length differ. -/
def differing (r c : List Byte) : Finset ℕ := (Finset.range r.length).filter fun p => r.getD p 0#8 ≠ c.getD p 0#8

theorem mem_differing (r c : List Byte) (p : ℕ) : p ∈ differing r c ↔ p < r.length ∧ r.getD p 0#8 ≠ c.getD p 0#8 := by
  rw [differing, Finset.mem_filter, Finset.mem_range]

theorem hammingDistance_eq_card (r c : List Byte) (h : c.length = r.length) :
    hammingDistance r c = (differing r c).card := by
  rw [differing, Finset.card_filter]
  induction r generalizing c with
  | nil => rfl
  | cons a r ih =>
    obtain ⟨b, c, rfl⟩ := List.exists_cons_of_length_eq_add_one h
    rw [hammingDistance, List.length_cons, Finset.sum_range_succ', ih c (by simpa using h), Nat.add_comm]
    simp

theorem eq_of_differing_eq_empty (r c : List Byte) (hlen : c.length = r.length) (h : differing r c = ∅) : r = c := by
  refine List.ext_getElem hlen.symm fun p hr hc => ?_
  have hp : p ∉ differing r c := h ▸ Finset.notMem_empty p
  rw [mem_differing] at hp
  simpa [hr, hc] using hp

section
variable {K : Type*} [Field K] [CharP K 2] {β : K}

/-- The error at a position, and the locator of a position in a block of n bytes. -/
def errorAt (β : K) (r c : List Byte) (p : ℕ) : K := byteIn β (r.getD p 0#8) + byteIn β (c.getD p 0#8)
def locatorAt (β : K) (n p : ℕ) : K := β ^ (n - 1 - p)

theorem byteIn_positionLocator (hβ : IsByteRoot β) (n p : ℕ) : byteIn β (positionLocator n p) = locatorAt β n p :=
  byteIn_alphaPow hβ _

omit [CharP K 2] in
theorem locatorAt_ne_zero (hβ : IsByteRoot β) (n p : ℕ) : locatorAt β n p ≠ 0 := pow_ne_zero _ hβ.ne_zero

/-- The positions of a block of at most 255 bytes have distinct locators. -/
theorem locatorAt_injOn (hβ : IsByteRoot β) (n : ℕ) (hn : n ≤ 255) : Set.InjOn (locatorAt β n) (Set.Iio n) := by
  intro p hp q hq heq
  rw [Set.mem_Iio] at hp hq
  have := hβ.pow_injOn (Set.mem_Iio.mpr (by omega)) (Set.mem_Iio.mpr (by omega)) heq
  omega

theorem errorAt_ne_zero (hβ : IsByteRoot β) (r c : List Byte) : ∀ p ∈ differing r c, errorAt β r c p ≠ 0 := by
  intro p hp hzero
  exact ((mem_differing r c p).mp hp).2 (byteIn_injective hβ (CharTwo.add_eq_zero.mp hzero))

theorem differing_locators_injOn (hβ : IsByteRoot β) (r c : List Byte) (hn : r.length ≤ 255) :
    Set.InjOn (locatorAt β r.length) (differing r c) :=
  (locatorAt_injOn hβ r.length hn).mono fun p hp => ((mem_differing r c p).mp hp).1

theorem isCodeword_iff (ec : ℕ) (c : List Byte) :
    isCodeword ec c = true ↔ ∀ i < ec, evalHighFirst c (alphaPow i) = 0#8 := by
  simp [isCodeword]

/-- Syndrome i of a word is the power sum of its differences from a codeword. -/
theorem byteIn_syndrome (hβ : IsByteRoot β) {ec : ℕ} {r c : List Byte} (hlen : c.length = r.length)
    (hcode : isCodeword ec c = true) (i : ℕ) (hi : i < ec) :
    byteIn β (evalHighFirst r (alphaPow i)) =
      ∑ p ∈ differing r c, errorAt β r c p * locatorAt β r.length p ^ i := by
  have hzero : byteIn β (evalHighFirst c (alphaPow i)) = 0 := by
    rw [(isCodeword_iff ec c).mp hcode i hi, byteIn_zero]
  have hall : byteIn β (evalHighFirst r (alphaPow i)) =
      ∑ p ∈ Finset.range r.length, errorAt β r c p * locatorAt β r.length p ^ i := by
    rw [← add_zero (byteIn β _), ← hzero, byteIn_evalHighFirst hβ, byteIn_evalHighFirst hβ, hlen,
      ← Finset.sum_add_distrib]
    refine Finset.sum_congr rfl fun p _ => ?_
    rw [← add_mul, errorAt, locatorAt, byteIn_alphaPow hβ, pow_right_comm]
  rw [hall, differing, Finset.sum_filter_of_ne]
  intro p _ hne heq
  rw [errorAt, heq, CharTwo.add_self_eq_zero, zero_mul] at hne
  exact hne rfl

/-- The syndrome list of a word, as a polynomial, holds the power sums of its differences from a codeword. -/
theorem isSyndrome_syndromes (hβ : IsByteRoot β) {ec : ℕ} {r c : List Byte} (hlen : c.length = r.length)
    (hcode : isCodeword ec c = true) :
    IsSyndrome ec (differing r c) (locatorAt β r.length) (errorAt β r c) (polyIn β (syndromes ec r)) := by
  intro i hi
  rw [← byteIn_syndrome hβ hlen hcode i hi, coeff_polyIn, syndromes]
  simp [List.getD_eq_getElem?_getD, hi]

/-- Two codewords that differ do so in more than E positions: the power sums of their differences are all 0. -/
theorem lt_hammingDistance (hβ : IsByteRoot β) {ec : ℕ} {b c : List Byte} (hlen : c.length = b.length)
    (hn : b.length ≤ 255) (hb : isCodeword ec b = true) (hc : isCodeword ec c = true) (hne : b ≠ c) :
    ec < hammingDistance b c := by
  rw [hammingDistance_eq_card b c hlen]
  by_contra hle
  have hsums : ∀ i < (differing b c).card,
      ∑ p ∈ differing b c, errorAt β b c p * locatorAt β b.length p ^ i = 0 := by
    intro i hi
    rw [← byteIn_syndrome hβ hlen hc i (by omega), (isCodeword_iff ec b).mp hb i (by omega), byteIn_zero]
  have hnone := eq_zero_of_power_sums (differing_locators_injOn hβ b c hn) hsums
  refine hne (eq_of_differing_eq_empty b c hlen (Finset.eq_empty_of_forall_notMem fun p hp => ?_))
  exact errorAt_ne_zero hβ b c p hp (hnone p hp)

/-- The evaluator the decoder computes is the one of the errors: both are 0 from E on. -/
theorem polyIn_evaluator (hβ : IsByteRoot β) {ec : ℕ} {synd locator : List Byte} {places : Finset ℕ} {x e : ℕ → K}
    (hs : IsSyndrome ec places x e (polyIn β synd)) (hlocator : polyIn β locator = locatorOf x places)
    (hcard : places.card ≤ ec) : polyIn β (polyMulTrunc ec synd locator) = evaluatorOf x e places := by
  ext i
  rw [coeff_polyIn_polyMulTrunc hβ, hlocator, mul_comm]
  split
  · next hi => exact hs.coeff_key_equation i hi
  · exact (coeff_evaluatorOf_of_card_le (by omega)).symm

/-- Chien search and Forney: with the locator and the evaluator of the differences the byte at each position becomes the
codeword's. -/
theorem correctByte_eq (hβ : IsByteRoot β) {r c : List Byte} (hn : r.length ≤ 255) {locator evaluator : List Byte}
    (hlocator : polyIn β locator = locatorOf (locatorAt β r.length) (differing r c))
    (hevaluator : polyIn β evaluator = evaluatorOf (locatorAt β r.length) (errorAt β r c) (differing r c))
    (p : ℕ) (hp : p < r.length) :
    correctByte locator evaluator (positionLocator r.length p) (r.getD p 0#8) = c.getD p 0#8 := by
  have hx := locatorAt_ne_zero hβ r.length p
  have hinverse : byteIn β (ginv (positionLocator r.length p)) = (locatorAt β r.length p)⁻¹ := by
    rw [byteIn_ginv hβ, byteIn_positionLocator hβ]
  have hdistinct : ∀ q ∈ differing r c, locatorAt β r.length q = locatorAt β r.length p → q = p :=
    fun q hq heq => locatorAt_injOn hβ r.length hn ((mem_differing r c q).mp hq).1 hp heq
  have hroot : evalLowFirst locator (ginv (positionLocator r.length p)) = 0#8 ↔ p ∈ differing r c := by
    rw [← byteIn_eq_zero_iff hβ, byteIn_evalLowFirst hβ, hlocator, hinverse, eval_locatorOf_eq_zero_iff p hx hdistinct]
  rw [correctByte]
  split
  · next h =>
    have hmem := hroot.mp h
    have hsimple :
        (locatorOf (locatorAt β r.length) ((differing r c).erase p)).eval (locatorAt β r.length p)⁻¹ ≠ 0 := by
      rw [Ne, eval_locatorOf_eq_zero_iff p hx fun q hq => hdistinct q (Finset.mem_of_mem_erase hq)]
      exact Finset.notMem_erase p _
    refine byteIn_injective hβ ?_
    rw [byteIn_xor, byteIn_gmul hβ, byteIn_gdiv hβ, byteIn_evalLowFirst hβ, byteIn_evalLowFirst hβ,
      polyIn_polyDerivative, hlocator, hevaluator, hinverse, byteIn_positionLocator hβ, eval_evaluatorOf hmem hx,
      eval_derivative_locatorOf hmem hx, CharTwo.neg_eq, mul_div_mul_right _ _ hsimple, mul_div_cancel₀ _ hx, errorAt,
      ← add_assoc, CharTwo.add_self_eq_zero, zero_add]
  · next h =>
    rw [hroot, mem_differing, not_and, not_not] at h
    exact h hp

end

theorem getElem?_correctFrom (locator evaluator : List Byte) (n p : ℕ) (r : List Byte) (i : ℕ) (hi : i < r.length) :
    (correctFrom locator evaluator n p r)[i]? =
      some (correctByte locator evaluator (positionLocator n (p + i)) (r.getD i 0#8)) := by
  induction r generalizing p i with
  | nil => simp at hi
  | cons b r ih =>
    cases i with
    | zero => rfl
    | succ i =>
      rw [correctFrom, List.getElem?_cons_succ, ih (p + 1) i (by simpa using hi), List.getD_cons_succ,
        Nat.add_right_comm, Nat.add_assoc]

/-- The reference algorithm corrects at most floor(E/2) wrong bytes. -/
theorem correctionOf_eq {ec : ℕ} {r c : List Byte} (hn : r.length ≤ 255) (hlen : c.length = r.length)
    (hcode : isCodeword ec c = true) (hnear : hammingDistance r c ≤ ec / 2) : correctionOf ec r = c := by
  obtain ⟨β, hβ⟩ := exists_isByteRoot
  rw [hammingDistance_eq_card r c hlen] at hnear
  have hs := isSyndrome_syndromes hβ hlen hcode
  have hlocator := polyIn_errorLocator hβ ec (syndromes ec r) hs (differing_locators_injOn hβ r c hn)
    (fun p _ => locatorAt_ne_zero hβ r.length p) (errorAt_ne_zero hβ r c) (by omega)
  have hevaluator := polyIn_evaluator hβ hs hlocator (by omega)
  have hcorrect : correctionOf ec r = correctFrom (errorLocator ec (syndromes ec r))
      (polyMulTrunc ec (syndromes ec r) (errorLocator ec (syndromes ec r))) r.length 0 r := rfl
  refine List.ext_getElem? fun i => ?_
  by_cases hi : i < r.length
  · rw [hcorrect, getElem?_correctFrom _ _ _ _ r i hi, Nat.zero_add, correctByte_eq hβ hn hlocator hevaluator i hi,
      getElem?_eq_some_getD (hlen.symm ▸ hi)]
  · rw [List.getElem?_eq_none (by rw [correctionOf_length]; omega), List.getElem?_eq_none (by omega)]

/-- Settles O31: the bound over a field in which the bytes can be read. -/
theorem codewordsAreFarApart : Obligations.CodewordsAreFarApart := by
  unfold Obligations.CodewordsAreFarApart
  intro ec b c hlen hn hb hc hne
  obtain ⟨β, hβ⟩ := exists_isByteRoot
  exact lt_hammingDistance hβ hlen.symm hn hb hc hne

/-- The decoder finds the codeword within floor(E/2) bytes of the received block: a received codeword
has no other one that near, and any other block is corrected to it. -/
theorem rsDecode_complete {ec : ℕ} {r c : List Byte} (hn : r.length ≤ 255) (hlen : c.length = r.length)
    (hcode : isCodeword ec c = true) (hnear : hammingDistance r c ≤ ec / 2) :
    rsDecode ec r = some (c, hammingDistance r c) := by
  cases hr : isCodeword ec r with
  | true =>
    have hsame : r = c := by
      by_contra hne
      have := codewordsAreFarApart ec r c hlen.symm hn hr hcode hne
      omega
    rw [rsDecode_of_isCodeword ec r hr, ← hsame, hammingDistance_self]
  | false =>
    exact (rsDecode_eq_some_iff_of_not_isCodeword ec r c _ hr).mpr
      ⟨correctionOf_eq hn hlen hcode hnear, hcode, rfl, hnear⟩

/-- Settles O29: the decoder is sound and complete. -/
theorem rsDecodeMeetsItsRule : Obligations.RsDecodeMeetsItsRule := by
  unfold Obligations.RsDecodeMeetsItsRule
  intro ec r _ hn
  refine ⟨fun c k => ⟨rsDecode_sound, ?_⟩, ?_⟩
  · rintro ⟨hlen, hcode, rfl, hnear⟩
    exact rsDecode_complete hn hlen hcode hnear
  · constructor
    · rintro hnone ⟨c, hlen, hcode, hnear⟩
      rw [rsDecode_complete hn hlen hcode hnear] at hnone
      cases hnone
    · intro hno
      by_contra hsome
      obtain ⟨⟨c, k⟩, hdecode⟩ := Option.ne_none_iff_exists'.mp hsome
      obtain ⟨hlen, hcode, rfl, hnear⟩ := rsDecode_sound hdecode
      exact hno ⟨c, hlen, hcode, hnear⟩

end Sys2Proof.Machine
end

section
/-! SUPPORT. The message reader and the segment header (43_segment_decoder.md R190-R195): the words the errors of unit
SEG leave in ERRINFO (60_exceptions.md R231), and what MSG_READ, SEG_MODE and SEG_COUNT do by the bits they read. -/

namespace Sys2Proof.Machine

/-! The numbers of the message stream and the words of the errors. -/

theorem messageBits_lt (s : State) (pos n : Nat) : messageBits s pos n < 2 ^ n :=
  (bitsNat_lt _).trans_eq (by simp)

/-- END_OF_DATA of the message stream is 0x80000000 with the width in its low bits. -/
theorem endOfData_message (n : Nat) (hn : n < 256) :
    endOfData .message n = ⟨.endOfData, BitVec.ofNat 32 (0x80000000 + n)⟩ := by
  unfold endOfData
  congr 1
  apply BitVec.eq_of_toNat_eq
  simp only [toNat_append_eq_add, BitVec.toNat_ofNat, Nat.mod_eq_of_lt hn]
  change 2 ^ 8 * (2 ^ 23 * 1 + 0) + n = _
  omega

/-- ILLEGAL_VALUE has the width above the 16 bits of the value. -/
theorem illegalValue_eq (width value : Nat) (hwidth : width < 16) (hvalue : value < 65536) :
    illegalValue width value = ⟨.illegalValue, BitVec.ofNat 32 (0x10000 * width + value)⟩ := by
  unfold illegalValue
  congr 1
  apply BitVec.eq_of_toNat_eq
  rw [zext32, BitVec.toNat_setWidth]
  simp only [toNat_append_eq_add, BitVec.toNat_ofNat, Nat.mod_eq_of_lt hwidth, Nat.mod_eq_of_lt hvalue]
  rfl

/-! MSG_READ. -/

theorem endOfData_message_count :
    ∀ n : BitVec 6, endOfData .message n.toNat = ⟨.endOfData, (1#1 ++ 0#25 ++ n : BitVec 32)⟩ := by
  decide

theorem exec_msgRead (n : BitVec 6) (s : State) (hn : n.toNat ≤ 32) (hmessage : s.mValid = true) :
    exec (.msgRead n) s = finish (msgReadBody n s) := by
  change finish (checkCount n s (require s.mValid s (msgReadBody n s))) = _
  rw [checkCount_legal n s _ hn, hmessage, require_true]

/-- Settles O36: RDATA is the number of the next bits, or the length check raises. -/
theorem msgReadReturnsTheBits : Obligations.MsgReadReturnsTheBits := by
  unfold Obligations.MsgReadReturnsTheBits
  intro n s hn hmessage
  rw [exec_msgRead n s hn hmessage, msgReadBody]
  refine ⟨fun hfit => ?_, fun hover => ?_⟩
  · rw [if_neg (show ¬ messageLimit s < _ from Nat.not_lt.mpr hfit)]
    have hlength : ((List.range n.toNat).map fun k => messageBit s (s.msgPos.toNat + k)).length = n.toNat := by simp
    have hword := natWord_bitsNat_getLsbD _ (hlength.trans_le hn)
    refine ⟨_, rfl, fun k hk => ?_, fun k hk => ?_⟩
    · have hplace : n.toNat - 1 - (n.toNat - 1 - k) = k := by omega
      rw [messageBits, hword]
      simp [hplace, show n.toNat - 1 - k < n.toNat by omega, messageBit]
    · rw [messageBits, hword, List.getD_eq_default _ _ (by rw [List.length_reverse, hlength]; exact hk)]
  · rw [if_pos (show messageLimit s < _ from hover), endOfData_message_count]
    rfl

/-! SEG_MODE. -/

theorem exec_segMode (s : State) (hmessage : s.mValid = true) (hidle : s.sstate = .idle) :
    exec .segMode s = finish (segModeBody s) := by
  change finish (require (s.mValid && s.sstate == .idle) s (segModeBody s)) = _
  rw [hmessage, hidle]
  rfl

/-- With four bits left, the indicator they make is accepted or not. -/
theorem segModeBody_of_indicator (m : BitVec 4) (s : State) (hfit : s.msgPos.toNat + 4 ≤ messageLimit s)
    (hm : messageBits s s.msgPos.toNat 4 = m.toNat) : segModeBody s = acceptMode m s := by
  rw [segModeBody, if_neg (Nat.not_lt.mpr hfit), hm, BitVec.ofNat_toNat, BitVec.setWidth_eq]

theorem acceptMode_accepted (m : BitVec 4) (hm : m ∈ [1#4, 2#4, 4#4, 8#4]) (s : State) :
    acceptMode m s =
      .done { s with msgPos := BitVec.ofNat 15 (s.msgPos.toNat + 4), segMode := m, sstate := .modeRead } := by
  have hkind : ∀ m ∈ [1#4, 2#4, 4#4, 8#4], modeUnsupported m = false ∧ modeAccepted m = true := by decide
  obtain ⟨hsupported, haccepted⟩ := hkind m hm
  simp [acceptMode, hsupported, haccepted]

theorem acceptMode_unsupported (m : BitVec 4) (hm : m ∈ [3#4, 7#4]) (s : State) :
    acceptMode m s = .failed ⟨.unsupported, m.setWidth 32⟩ s := by
  have hkind : ∀ m ∈ [3#4, 7#4], modeUnsupported m = true := by decide
  rw [acceptMode, if_pos (hkind m hm), zext32]

theorem acceptMode_illegal (m : BitVec 4)
    (hm : m ∈ [0#4, 5#4, 6#4, 9#4, 10#4, 11#4, 12#4, 13#4, 14#4, 15#4]) (s : State) :
    acceptMode m s = .failed ⟨.illegalMode, m.setWidth 32⟩ s := by
  have hkind : ∀ m ∈ [0#4, 5#4, 6#4, 9#4, 10#4, 11#4, 12#4, 13#4, 14#4, 15#4],
      modeUnsupported m = false ∧ modeAccepted m = false := by decide
  obtain ⟨hsupported, hrefused⟩ := hkind m hm
  simp [acceptMode, hsupported, hrefused, zext32]

/-- Settles O37: the length check, then the indicator by its row of the table. -/
theorem segModeByIndicator : Obligations.SegModeByIndicator := by
  unfold Obligations.SegModeByIndicator
  intro s hmessage hidle
  rw [exec_segMode s hmessage hidle]
  refine ⟨fun m hfit hm => ?_, fun hover => ?_⟩
  · rw [segModeBody_of_indicator m s hfit hm]
    exact ⟨fun h => by rw [acceptMode_accepted m h]; rfl, fun h => by rw [acceptMode_unsupported m h]; rfl,
      fun h => by rw [acceptMode_illegal m h]; rfl⟩
  · rw [segModeBody, if_pos (show messageLimit s < _ from hover), endOfData_message 4 (by decide)]
    rfl

/-! SEG_COUNT. -/

theorem exec_segCount (s : State) (hread : s.sstate = .modeRead) : exec .segCount s = finish (segCountBody s) := by
  change finish (require (s.sstate == .modeRead) s (segCountBody s)) = _
  rw [hread]
  rfl

theorem segCountBody_fits {w pos : Nat} {s : State} (hw : countWidth s = w) (hpos : s.msgPos.toNat = pos)
    (hfit : pos + w ≤ messageLimit s) :
    segCountBody s = .done { s with
      segCount := BitVec.ofNat 16 (messageBits s pos w), msgPos := BitVec.ofNat 15 (pos + w),
      sstate := .countRead } := by
  rw [segCountBody, hw, hpos, if_neg (Nat.not_lt.mpr hfit)]

theorem segCountBody_past_end (w : Nat) (s : State) (hw : countWidth s = w)
    (hover : messageLimit s < s.msgPos.toNat + w) : segCountBody s = .failed (endOfData .message w) s := by
  rw [segCountBody, hw, if_pos hover]

theorem getD_tierOf (a b c d v : Nat) :
    [a, b, c].getD (tierOf v) d = if v ≤ 9 then a else if v ≤ 26 then b else c := by
  by_cases h9 : v ≤ 9
  · rw [tierOf, if_pos (by omega), if_pos h9]
    rfl
  · by_cases h26 : v ≤ 26
    · rw [tierOf, if_neg (by omega), if_pos (by omega), if_neg h9, if_pos h26]
      rfl
    · rw [tierOf, if_neg (by omega), if_neg (by omega), if_neg h9, if_neg h26]
      rfl

/-- The tiers of R194 as ranges of versions. -/
theorem countWidth_of_row (s : State) (a b c : Nat) (hrow : ccWidths s.segMode = [a, b, c]) :
    countWidth s = if s.version.toNat ≤ 9 then a else if s.version.toNat ≤ 26 then b else c := by
  rw [countWidth, ccWidth, hrow, getD_tierOf]

theorem countWidth_byte (s : State) (hmode : s.segMode = 4#4) :
    countWidth s = if s.version.toNat ≤ 9 then 8 else 16 := by
  rw [countWidth_of_row s 8 16 16 (by rw [hmode]; rfl), ite_self]

/-- Settles O38: the width is the one of the mode's row in the version's tier; then the length check. -/
theorem segCountWidths : Obligations.SegCountWidths := by
  unfold Obligations.SegCountWidths
  intro s w hread _ _ hrow
  have hw : countWidth s = w := by
    rcases hrow with ⟨hmode, rfl⟩ | ⟨hmode, rfl⟩ | ⟨hmode, rfl⟩ | ⟨hmode, rfl⟩
    · exact countWidth_of_row s 10 12 14 (by rw [hmode]; rfl)
    · exact countWidth_of_row s 9 11 13 (by rw [hmode]; rfl)
    · exact countWidth_byte s hmode
    · exact countWidth_of_row s 8 10 12 (by rw [hmode]; rfl)
  have hsmall : w < 256 := by
    rcases hrow with ⟨_, rfl⟩ | ⟨_, rfl⟩ | ⟨_, rfl⟩ | ⟨_, rfl⟩ <;> split_ifs <;> decide
  rw [exec_segCount s hread]
  refine ⟨fun hfit => ?_, fun hover => ?_⟩
  · rw [segCountBody_fits hw rfl hfit]
    rfl
  · rw [segCountBody_past_end w s hw hover, endOfData_message w hsmall]
    rfl

end Sys2Proof.Machine
end

section
/-! SUPPORT. The groups of a payload (43_segment_decoder.md R197): when a run of groups and a final one are all taken,
the entries they leave and where each stands in OUTBUF; when one is not, the first such group is the one raised. -/

namespace Sys2Proof.Machine

/-- A group can be taken at a bit position: it fits in the message and its value is legal. -/
def Takeable (s : State) (g : Group) (pos : Nat) : Prop :=
  pos + g.width ≤ messageLimit s ∧ (g.emits (messageBits s pos g.width)).isSome = true

/-- k groups of one kind from a bit position on, and the final group after them, can all be taken. -/
structure AllTakeable (s : State) (g : Group) (k : Nat) (last : Option Group) (pos : Nat) : Prop where
  groups : ∀ j < k, Takeable s g (pos + g.width * j)
  final : ∀ h, last = some h → Takeable s h (pos + g.width * k)

/-- The entries of the group at a bit position. -/
def entriesAt (s : State) (g : Group) (pos : Nat) : List Entry := (g.emits (messageBits s pos g.width)).getD []

/-- The width of a final group, 0 when there is none. -/
def lastWidth (last : Option Group) : Nat := last.elim 0 Group.width

/-- The entries of a final group at a bit position, none when there is no such group. -/
def lastEntries (s : State) (last : Option Group) (pos : Nat) : List Entry := last.elim [] fun h => entriesAt s h pos

/-- The entries of k groups of one kind from a bit position on. -/
def groupEntries (s : State) (g : Group) (k pos : Nat) : List Entry :=
  (List.range k).flatMap fun j => entriesAt s g (pos + g.width * j)

theorem takeable_of_emits {s : State} {g : Group} {pos : Nat} {entries : List Entry}
    (hfit : pos + g.width ≤ messageLimit s) (h : g.emits (messageBits s pos g.width) = some entries) :
    Takeable s g pos :=
  ⟨hfit, by rw [h]; rfl⟩

theorem entriesAt_of_emits {s : State} {g : Group} {pos : Nat} {entries : List Entry}
    (h : g.emits (messageBits s pos g.width) = some entries) : entriesAt s g pos = entries := by
  rw [entriesAt, h]
  rfl

theorem takeGroup_of_takeable {s : State} {g : Group} {pos : Nat} (h : Takeable s g pos) :
    takeGroup s g pos = .ok (entriesAt s g pos) := by
  obtain ⟨hfit, hlegal⟩ := h
  obtain ⟨entries, hentries⟩ := Option.isSome_iff_exists.mp hlegal
  rw [takeGroup, if_neg (Nat.not_lt.mpr hfit), entriesAt, hentries]
  rfl

theorem takeGroup_past_end {s : State} {g : Group} {pos : Nat} (hwidth : g.width < 16)
    (hover : messageLimit s < pos + g.width) :
    takeGroup s g pos = .error ⟨.endOfData, BitVec.ofNat 32 (0x80000000 + g.width)⟩ := by
  rw [takeGroup, if_pos hover, endOfData_message _ (by omega)]

theorem takeGroup_illegal {s : State} {g : Group} {pos : Nat} (hwidth : g.width < 16)
    (hfit : pos + g.width ≤ messageLimit s) (hillegal : g.emits (messageBits s pos g.width) = none) :
    takeGroup s g pos =
      .error ⟨.illegalValue, BitVec.ofNat 32 (0x10000 * g.width + messageBits s pos g.width)⟩ := by
  have hvalue : messageBits s pos g.width < 2 ^ 16 :=
    (messageBits_lt s pos g.width).trans (Nat.pow_lt_pow_right (by decide) hwidth)
  rw [takeGroup, if_neg (Nat.not_lt.mpr hfit), hillegal, illegalValue_eq _ _ hwidth hvalue]

/-! A run of groups. -/

theorem takeGroups_of_takeable {s : State} {g : Group} {k pos : Nat}
    (h : ∀ j < k, Takeable s g (pos + g.width * j)) : takeGroups s g k pos = .ok (groupEntries s g k pos) :=
  takeGroups_of_each s g k pos _ fun j hj => by rw [Nat.mul_comm, takeGroup_of_takeable (h j hj)]

/-- The first group that is not taken is the one raised. -/
theorem takeGroups_of_first_failure {s : State} {g : Group} {k pos j : Nat} {e : CmdError} (hj : j < k)
    (hbefore : ∀ i < j, Takeable s g (pos + g.width * i)) (hfail : takeGroup s g (pos + g.width * j) = .error e) :
    takeGroups s g k pos = .error e := by
  induction j generalizing k pos with
  | zero =>
    obtain ⟨k, rfl⟩ := Nat.exists_eq_succ_of_ne_zero (by omega : k ≠ 0)
    have hfirst : takeGroup s g pos = .error e := hfail
    simp only [takeGroups, hfirst]
  | succ j ih =>
    obtain ⟨k, rfl⟩ := Nat.exists_eq_succ_of_ne_zero (by omega : k ≠ 0)
    have hnext : ∀ i, pos + g.width * (i + 1) = pos + g.width + g.width * i := fun i => by ring
    have hrest : takeGroups s g k (pos + g.width) = .error e :=
      ih (by omega) (fun i hi => hnext i ▸ hbefore (i + 1) (by omega)) (hnext j ▸ hfail)
    have hfirst : takeGroup s g pos = .ok (entriesAt s g pos) := takeGroup_of_takeable (hbefore 0 (by omega))
    simp only [takeGroups, hfirst, hrest]

/-- Groups without an illegal value fail only where the message ends. -/
theorem takeGroups_past_end {s : State} {g : Group} {k pos : Nat} (hwidth : g.width < 16)
    (hlegal : ∀ v, (g.emits v).isSome = true) (hk : 1 ≤ k) (hover : messageLimit s < pos + g.width * k) :
    takeGroups s g k pos = .error ⟨.endOfData, BitVec.ofNat 32 (0x80000000 + g.width)⟩ := by
  cases hrun : takeGroups s g k pos with
  | ok entries =>
    rcases takeGroups_ok s g k pos entries hrun with ⟨hzero, _⟩ | hfit
    · omega
    · rw [Nat.mul_comm] at hfit
      omega
  | error e =>
    obtain ⟨j, _, hfail⟩ := takeGroups_error s g k pos e hrun
    have hend : ¬ pos + j * g.width + g.width ≤ messageLimit s := fun hfit => by
      rw [takeGroup_of_takeable ⟨hfit, hlegal _⟩] at hfail
      cases hfail
    rw [takeGroup_past_end hwidth (Nat.not_le.mp hend)] at hfail
    exact hfail.symm

/-! A run of groups and a final one. -/

theorem takeThen_of_takeable {s : State} {g : Group} {k : Nat} {last : Option Group} {pos : Nat}
    (h : AllTakeable s g k last pos) :
    takeThen s g k last pos =
      .ok (groupEntries s g k pos ++ lastEntries s last (pos + g.width * k), pos + g.width * k + lastWidth last) := by
  cases last with
  | none => simp [takeThen, takeGroups_of_takeable h.groups, lastEntries, lastWidth, Nat.mul_comm]
  | some g' =>
    simp only [takeThen, takeGroups_of_takeable h.groups, Nat.mul_comm k, takeGroup_of_takeable (h.final g' rfl)]
    rfl

theorem takeThen_of_groups_error {s : State} {g : Group} {k : Nat} {last : Option Group} {pos : Nat} {e : CmdError}
    (h : takeGroups s g k pos = .error e) : takeThen s g k last pos = .error e := by
  simp only [takeThen, h]

theorem takeThen_of_last_error {s : State} {g h : Group} {k pos : Nat} {e : CmdError}
    (hgroups : ∀ j < k, Takeable s g (pos + g.width * j)) (hfail : takeGroup s h (pos + g.width * k) = .error e) :
    takeThen s g k (some h) pos = .error e := by
  simp only [takeThen, takeGroups_of_takeable hgroups, Nat.mul_comm k, hfail]

/-! Where the entries stand. -/

theorem entriesAt_length {s : State} {g : Group} {c pos : Nat} (hc : ∀ v es, g.emits v = some es → es.length = c)
    (h : Takeable s g pos) : (entriesAt s g pos).length = c := by
  obtain ⟨entries, hentries⟩ := Option.isSome_iff_exists.mp h.2
  rw [entriesAt, hentries]
  exact hc _ entries hentries

theorem groupEntries_length {s : State} {g : Group} {c k pos : Nat}
    (hc : ∀ v es, g.emits v = some es → es.length = c) (h : ∀ j < k, Takeable s g (pos + g.width * j)) :
    (groupEntries s g k pos).length = c * k := by
  rw [takeGroups_length s g c hc k pos _ (takeGroups_of_takeable h), Nat.mul_comm]

/-- The groups' entries stand in order, c for each. -/
theorem groupEntries_getD {s : State} {g : Group} {c k pos j i : Nat}
    (hc : ∀ v es, g.emits v = some es → es.length = c) (h : ∀ j < k, Takeable s g (pos + g.width * j))
    (hj : j < k) (hi : i < c) : (groupEntries s g k pos).getD (c * j + i) unlisted =
      (entriesAt s g (pos + g.width * j)).getD i unlisted := by
  have hbefore : (groupEntries s g j pos).length = c * j := groupEntries_length hc fun a ha => h a (by omega)
  rw [← hbefore]
  exact flatMap_range_getD _ k j i unlisted hj (by rw [entriesAt_length hc (h j hj)]; exact hi)

end Sys2Proof.Machine
end

section
/-! SUPPORT. SEG_PAYLOAD (43_segment_decoder.md R197-R202): the state it leaves and the error it raises, by the groups
of its mode. -/

namespace Sys2Proof.Machine

/-! The command. -/

/-- What a store of two runs of values from entry 0 on leaves at every entry. -/
theorem bufRead_bufStore_append (b : Buf Entry) (xs ys : List Entry) (i : Nat) :
    bufRead (bufStore b 0 (xs ++ ys)) i =
      if i < xs.length then xs.getD i unlisted
      else if i < xs.length + ys.length then ys.getD (i - xs.length) unlisted else bufRead b i := by
  rw [bufRead_bufStore, List.length_append, Nat.zero_add, Nat.sub_zero]
  by_cases hleft : i < xs.length
  · rw [if_pos ⟨Nat.zero_le i, by omega⟩, if_pos hleft, List.getD_append _ _ _ _ hleft]
  · by_cases hright : i < xs.length + ys.length
    · rw [if_pos ⟨Nat.zero_le i, hright⟩, if_neg hleft, if_pos hright, List.getD_append_right _ _ _ _ (by omega)]
    · rw [if_neg (fun h => hright h.2), if_neg hleft, if_neg hright]

/-- A payload whose groups can all be taken: the registers it writes, c entries for each full group, and those of the
final one after them. -/
theorem segPayloadBody_of_takeable {s : State} {g : Group} {c k pos : Nat} {last : Option Group} {final : List Entry}
    (hpos : pos = s.msgPos.toNat) (hpayload : payload s s.segMode s.segCount.toNat pos = takeThen s g k last pos)
    (hc : ∀ v es, g.emits v = some es → es.length = c) (h : AllTakeable s g k last pos)
    (hfinal : lastEntries s last (pos + g.width * k) = final) :
    ∃ b : Buf Entry,
      segPayloadBody s = .done { s with
        outBuf := b, outLen := BitVec.ofNat 14 (c * k + final.length),
        msgPos := BitVec.ofNat 15 (pos + g.width * k + lastWidth last), sstate := .idle } ∧
      (∀ j < k, ∀ i < c, bufRead b (c * j + i) = (entriesAt s g (pos + g.width * j)).getD i unlisted) ∧
      (∀ i < final.length, bufRead b (c * k + i) = final.getD i unlisted) ∧
      (∀ i, c * k + final.length ≤ i → bufRead b i = bufRead s.outBuf i) := by
  have hlength : (groupEntries s g k pos).length = c * k := groupEntries_length hc h.groups
  refine ⟨bufStore s.outBuf 0 (groupEntries s g k pos ++ final), ?registers, ?groups, ?final, ?rest⟩
  case registers =>
    rw [segPayloadBody, ← hpos, hpayload, takeThen_of_takeable h, hfinal, ← hlength, ← List.length_append]
    rfl
  case groups =>
    intro j hj i hi
    have hin : c * j + i < c * k :=
      calc c * j + i < c * (j + 1) := by rw [Nat.mul_succ]; omega
        _ ≤ c * k := Nat.mul_le_mul_left c hj
    rw [bufRead_bufStore_append, hlength, if_pos hin, groupEntries_getD hc h.groups hj hi]
  case final =>
    intro i hi
    rw [bufRead_bufStore_append, hlength, if_neg (by omega), if_pos (by omega), Nat.add_sub_cancel_left]
  case rest =>
    intro i hi
    rw [bufRead_bufStore_append, hlength, if_neg (by omega), if_neg (by omega)]

theorem exec_segPayload (s : State) (hstate : s.sstate = .countRead) :
    exec .segPayload s = finish (segPayloadBody s) := by
  change finish (require (s.sstate == .countRead) s (segPayloadBody s)) = _
  rw [hstate]
  rfl

theorem exec_segPayload_error {s : State} {code : ErrorCode} {info : Word} (hstate : s.sstate = .countRead)
    (h : payload s s.segMode s.segCount.toNat s.msgPos.toNat = .error ⟨code, info⟩) :
    exec .segPayload s = .next { s with
      err := true, errCode := code, errInfo := info, outLen := 0#14, busy := false } := by
  rw [exec_segPayload s hstate, segPayloadBody, h]
  rfl

/-! The groups of each mode. -/

theorem payload_numeric {s : State} (hmode : s.segMode = 1#4) (c pos : Nat) :
    payload s s.segMode c pos = takeThen s threeDigits (c / 3) (numericLast c) pos := by
  rw [hmode]
  rfl

theorem payload_alphanumeric {s : State} (hmode : s.segMode = 2#4) (c pos : Nat) :
    payload s s.segMode c pos = takeThen s alnumPair (c / 2) (alnumLast c) pos := by
  rw [hmode]
  rfl

theorem payload_byte {s : State} (hmode : s.segMode = 4#4) (c pos : Nat) :
    payload s s.segMode c pos = takeThen s rawByteGroup c none pos := by
  rw [hmode]
  rfl

theorem payload_kanji {s : State} (hmode : s.segMode = 8#4) (c pos : Nat) :
    payload s s.segMode c pos = takeThen s kanjiGroup c none pos := by
  rw [hmode]
  rfl

@[simp] theorem threeDigits_width : threeDigits.width = 10 := rfl

@[simp] theorem alnumPair_width : alnumPair.width = 11 := rfl

theorem threeDigits_emits {v : Nat} (h : v ≤ 999) :
    threeDigits.emits v = some [digit (v / 100), digit (v / 10 % 10), digit (v % 10)] :=
  if_neg (Nat.not_lt.mpr h)

theorem threeDigits_refuses {v : Nat} (h : 999 < v) : threeDigits.emits v = none := if_pos h

theorem twoDigits_emits {v : Nat} (h : v ≤ 99) : twoDigits.emits v = some [digit (v / 10), digit (v % 10)] :=
  if_neg (Nat.not_lt.mpr h)

theorem twoDigits_refuses {v : Nat} (h : 99 < v) : twoDigits.emits v = none := if_pos h

theorem oneDigit_emits {v : Nat} (h : v ≤ 9) : oneDigit.emits v = some [digit v] := if_neg (Nat.not_lt.mpr h)

theorem oneDigit_refuses {v : Nat} (h : 9 < v) : oneDigit.emits v = none := if_pos h

theorem alnumPair_emits {v : Nat} (h : v < 2025) :
    alnumPair.emits v = some [BitVec.ofNat 16 (alnum (v / 45)), BitVec.ofNat 16 (alnum (v % 45))] :=
  if_neg (Nat.not_le.mpr h)

theorem alnumPair_refuses {v : Nat} (h : 2025 ≤ v) : alnumPair.emits v = none := if_pos h

theorem alnumSingle_emits {v : Nat} (h : v < 45) : alnumSingle.emits v = some [BitVec.ofNat 16 (alnum v)] :=
  if_neg (Nat.not_le.mpr h)

theorem alnumSingle_refuses {v : Nat} (h : 45 ≤ v) : alnumSingle.emits v = none := if_pos h

theorem numericLast_two {c : Nat} (h : c % 3 = 2) : numericLast c = some twoDigits := if_pos h

theorem numericLast_one {c : Nat} (h : c % 3 = 1) : numericLast c = some oneDigit := by
  rw [numericLast, if_neg (by omega), if_pos h]

theorem numericLast_none {c : Nat} (h : c % 3 = 0) : numericLast c = none := by
  rw [numericLast, if_neg (by omega), if_neg (by omega)]

theorem alnumLast_one {c : Nat} (h : c % 2 = 1) : alnumLast c = some alnumSingle := if_pos h

theorem alnumLast_none {c : Nat} (h : c % 2 = 0) : alnumLast c = none := if_neg (by omega)

/-! Bytes and kanji: one entry for each group, no final group. -/

/-- Groups of one entry each, none of them illegal: the payload is an entry for each. -/
theorem segPayloadBody_of_single_entries {s : State} {g : Group} {c pos : Nat} (code : Nat → Entry)
    (hpos : pos = s.msgPos.toNat) (hpayload : payload s s.segMode s.segCount.toNat pos = takeThen s g c none pos)
    (hg : ∀ v, g.emits v = some [code v]) (hfit : pos + g.width * c ≤ messageLimit s) :
    ∃ b : Buf Entry,
      segPayloadBody s = .done { s with
        outBuf := b, outLen := BitVec.ofNat 14 c, msgPos := BitVec.ofNat 15 (pos + g.width * c), sstate := .idle } ∧
      (∀ k < c, bufRead b k = code (messageBits s (pos + g.width * k) g.width)) ∧
      (∀ k, c ≤ k → bufRead b k = bufRead s.outBuf k) := by
  have hgroups : ∀ j < c, Takeable s g (pos + g.width * j) := fun j hj => by
    have hstep : g.width * (j + 1) ≤ g.width * c := Nat.mul_le_mul_left _ hj
    exact takeable_of_emits (by rw [Nat.mul_succ] at hstep; omega) (hg _)
  have hsingle : ∀ v es, g.emits v = some es → es.length = 1 := fun v es h => by
    rw [hg v] at h
    cases h
    rfl
  obtain ⟨b, hdone, hentries, -, hrest⟩ :=
    segPayloadBody_of_takeable hpos hpayload hsingle ⟨hgroups, fun h hnone => by cases hnone⟩ rfl
  simp only [lastEntries, lastWidth, Option.elim_none, List.length_nil, Nat.one_mul, Nat.add_zero]
    at hdone hentries hrest
  refine ⟨b, hdone, fun k hk => ?_, hrest⟩
  have hread := hentries k hk 0 Nat.zero_lt_one
  rw [entriesAt_of_emits (hg _)] at hread
  exact hread

theorem segPayloadBody_byte {s : State} {c pos : Nat} (hc : c = s.segCount.toNat) (hpos : pos = s.msgPos.toNat)
    (hmode : s.segMode = 4#4) (hfit : pos + 8 * c ≤ messageLimit s) :
    ∃ b : Buf Entry,
      segPayloadBody s = .done { s with
        outBuf := b, outLen := BitVec.ofNat 14 c, msgPos := BitVec.ofNat 15 (pos + 8 * c), sstate := .idle } ∧
      (∀ k < c, bufRead b k = BitVec.ofNat 16 (messageBits s (pos + 8 * k) 8)) ∧
      (∀ k, c ≤ k → bufRead b k = bufRead s.outBuf k) :=
  segPayloadBody_of_single_entries (g := rawByteGroup) (BitVec.ofNat 16) hpos
    (by rw [← hc, payload_byte hmode]) (fun _ => rfl) hfit

/-- Settles O39: both kinds of groups make one entry each. -/
theorem segPayloadBytesAndKanji : Obligations.SegPayloadBytesAndKanji := by
  unfold Obligations.SegPayloadBytesAndKanji
  intro s c pos hstate hc hpos
  rw [exec_segPayload s hstate]
  constructor
  · intro hmode hfit
    obtain ⟨b, hdone, hbytes, hrest⟩ := segPayloadBody_byte hc hpos hmode hfit
    exact ⟨b, by rw [hdone]; rfl, hbytes, hrest⟩
  · intro hmode hfit
    obtain ⟨b, hdone, hcodes, hrest⟩ := segPayloadBody_of_single_entries (g := kanjiGroup)
      (fun v => BitVec.ofNat 16 (kanjiCode v)) hpos (by rw [← hc, payload_kanji hmode]) (fun _ => rfl) hfit
    refine ⟨b, by rw [hdone]; rfl, ?_, hrest⟩
    rintro k hk m num rfl rfl
    exact hcodes k hk

/-! Digits. -/

theorem lastWidth_numericLast (c : Nat) :
    lastWidth (numericLast c) = if c % 3 = 2 then 7 else if c % 3 = 1 then 4 else 0 := by
  unfold numericLast
  split_ifs <;> rfl

theorem lastEntries_twoDigits {s : State} {c pos : Nat} (h : c % 3 = 2) (hv : messageBits s pos 7 ≤ 99) :
    lastEntries s (numericLast c) pos = [digit (messageBits s pos 7 / 10), digit (messageBits s pos 7 % 10)] := by
  rw [numericLast_two h]
  exact entriesAt_of_emits (twoDigits_emits hv)

theorem lastEntries_oneDigit {s : State} {c pos : Nat} (h : c % 3 = 1) (hv : messageBits s pos 4 ≤ 9) :
    lastEntries s (numericLast c) pos = [digit (messageBits s pos 4)] := by
  rw [numericLast_one h]
  exact entriesAt_of_emits (oneDigit_emits hv)

/-- The final group of digits is takeable when it fits in range, and makes the digits left over. -/
theorem numericLast_takeable {s : State} {c pos : Nat} (hfit : pos + lastWidth (numericLast c) ≤ messageLimit s)
    (htwo : c % 3 = 2 → messageBits s pos 7 ≤ 99) (hone : c % 3 = 1 → messageBits s pos 4 ≤ 9) :
    (∀ h, numericLast c = some h → Takeable s h pos) ∧ (lastEntries s (numericLast c) pos).length = c % 3 := by
  rcases (by omega : c % 3 = 0 ∨ c % 3 = 1 ∨ c % 3 = 2) with h | h | h
  · rw [numericLast_none h, h]
    exact ⟨fun _ hnone => (by cases hnone), rfl⟩
  · rw [lastEntries_oneDigit h (hone h), h]
    rw [numericLast_one h] at hfit ⊢
    exact ⟨fun _ hsome => by cases hsome; exact takeable_of_emits hfit (oneDigit_emits (hone h)), rfl⟩
  · rw [lastEntries_twoDigits h (htwo h), h]
    rw [numericLast_two h] at hfit ⊢
    exact ⟨fun _ hsome => by cases hsome; exact takeable_of_emits hfit (twoDigits_emits (htwo h)), rfl⟩

/-- Settles O40: three entries for each full group, and those of the final one after them. -/
theorem segPayloadNumeric : Obligations.SegPayloadNumeric := by
  unfold Obligations.SegPayloadNumeric
  intro s c pos last hstate hmode hc hpos hlast hfit hfull htwo hone
  have hwidth : lastWidth (numericLast c) = last := (lastWidth_numericLast c).trans hlast.symm
  have hgroups : ∀ j < c / 3, Takeable s threeDigits (pos + 10 * j) := fun j hj =>
    takeable_of_emits (g := threeDigits) (show pos + 10 * j + 10 ≤ 8 * s.msgLen.toNat by omega)
      (threeDigits_emits (hfull j hj))
  obtain ⟨hfinal, hlength⟩ := numericLast_takeable (s := s) (c := c) (pos := pos + 10 * (c / 3))
    (show _ ≤ 8 * s.msgLen.toNat by omega) htwo hone
  obtain ⟨b, hdone, hentries, hleft, hrest⟩ := segPayloadBody_of_takeable (last := numericLast c) hpos
    (by rw [← hc, payload_numeric hmode]) threeDigits_length ⟨hgroups, hfinal⟩ rfl
  have hcount : 3 * (c / 3) + c % 3 = c := Nat.div_add_mod c 3
  simp only [threeDigits_width, hlength, hcount, hwidth] at hdone hentries hleft hrest
  refine ⟨b, by rw [exec_segPayload s hstate, hdone]; rfl, ?_, ?_, ?_, hrest⟩
  · rintro j hj v rfl
    have hread := hentries j hj
    rw [entriesAt_of_emits (g := threeDigits) (threeDigits_emits (hfull j hj))] at hread
    exact ⟨hread 0 (by decide), hread 1 (by decide), hread 2 (by decide)⟩
  · rintro h v rfl
    rw [lastEntries_twoDigits h (htwo h), h] at hleft
    have h2 := hleft 0 (by decide)
    have h1 := hleft 1 (by decide)
    rw [show 3 * (c / 3) + 0 = c - 2 by omega] at h2
    rw [show 3 * (c / 3) + 1 = c - 1 by omega] at h1
    exact ⟨h2, h1⟩
  · rintro h v rfl
    rw [lastEntries_oneDigit h (hone h), h] at hleft
    have h1 := hleft 0 (by decide)
    rwa [show 3 * (c / 3) + 0 = c - 1 by omega] at h1

/-! Alphanumeric characters. -/

/-- The table of the model is the alphabet as the spec writes it. -/
theorem alnum_eq_letter : ∀ k < 45,
    alnum k = ("0123456789ABCDEFGHIJKLMNOPQRSTUVWXYZ $%*+-./:".toList.getD k ' ').toNat := by
  decide

theorem lastWidth_alnumLast (c : Nat) : lastWidth (alnumLast c) = if c % 2 = 1 then 6 else 0 := by
  unfold alnumLast
  split_ifs <;> rfl

theorem lastEntries_alnumSingle {s : State} {c pos : Nat} (h : c % 2 = 1) (hv : messageBits s pos 6 < 45) :
    lastEntries s (alnumLast c) pos = [BitVec.ofNat 16 (alnum (messageBits s pos 6))] := by
  rw [alnumLast_one h]
  exact entriesAt_of_emits (alnumSingle_emits hv)

/-- The final group of one character is takeable when it fits in range. -/
theorem alnumLast_takeable {s : State} {c pos : Nat} (hfit : pos + lastWidth (alnumLast c) ≤ messageLimit s)
    (hone : c % 2 = 1 → messageBits s pos 6 < 45) :
    (∀ h, alnumLast c = some h → Takeable s h pos) ∧ (lastEntries s (alnumLast c) pos).length = c % 2 := by
  rcases Nat.mod_two_eq_zero_or_one c with h | h
  · rw [alnumLast_none h, h]
    exact ⟨fun _ hnone => (by cases hnone), rfl⟩
  · rw [lastEntries_alnumSingle h (hone h), h]
    rw [alnumLast_one h] at hfit ⊢
    exact ⟨fun _ hsome => by cases hsome; exact takeable_of_emits hfit (alnumSingle_emits (hone h)), rfl⟩

/-- Settles O41: two entries for each pair, and the one of the final group after them. -/
theorem segPayloadAlphanumeric : Obligations.SegPayloadAlphanumeric := by
  unfold Obligations.SegPayloadAlphanumeric
  intro s c pos last letter hstate hmode hc hpos hlast hletter hfit hfull hone
  have halnum : ∀ k < 45, BitVec.ofNat 16 (alnum k) = letter k := fun k hk => by
    rw [hletter, alnum_eq_letter k hk]
  have hwidth : lastWidth (alnumLast c) = last := (lastWidth_alnumLast c).trans hlast.symm
  have hgroups : ∀ j < c / 2, Takeable s alnumPair (pos + 11 * j) := fun j hj =>
    takeable_of_emits (g := alnumPair) (show pos + 11 * j + 11 ≤ 8 * s.msgLen.toNat by omega)
      (alnumPair_emits (hfull j hj))
  obtain ⟨hfinal, hlength⟩ := alnumLast_takeable (s := s) (c := c) (pos := pos + 11 * (c / 2))
    (show _ ≤ 8 * s.msgLen.toNat by omega) hone
  obtain ⟨b, hdone, hentries, hleft, hrest⟩ := segPayloadBody_of_takeable (last := alnumLast c) hpos
    (by rw [← hc, payload_alphanumeric hmode]) alnumPair_length ⟨hgroups, hfinal⟩ rfl
  have hcount : 2 * (c / 2) + c % 2 = c := Nat.div_add_mod c 2
  simp only [alnumPair_width, hlength, hcount, hwidth] at hdone hentries hleft hrest
  refine ⟨b, by rw [exec_segPayload s hstate, hdone]; rfl, fun j hj => ?_, fun h => ?_, hrest⟩
  · have hv := hfull j hj
    have hpair := alnumPair_emits hv
    rw [halnum _ (by omega), halnum _ (by omega)] at hpair
    have hread := hentries j hj
    rw [entriesAt_of_emits (g := alnumPair) hpair] at hread
    exact ⟨hread 0 (by decide), hread 1 (by decide)⟩
  · rw [lastEntries_alnumSingle h (hone h), halnum _ (hone h), h] at hleft
    have h1 := hleft 0 (by decide)
    rwa [show 2 * (c / 2) + 0 = c - 1 by omega] at h1

end Sys2Proof.Machine
end

section
/-! SUPPORT. The errors of SEG_PAYLOAD (43_segment_decoder.md R197; 60_exceptions.md R234, R236): the first group in
stream order that cannot be taken, the final one after the full ones. -/

namespace Sys2Proof.Machine

/-- A full group that ends past the message, after groups that were taken. -/
theorem takeThen_first_past_end {s : State} {g : Group} {k pos j : Nat} {last : Option Group} (hwidth : g.width < 16)
    (hj : j < k) (hbefore : ∀ i < j, Takeable s g (pos + g.width * i))
    (hover : messageLimit s < pos + g.width * j + g.width) :
    takeThen s g k last pos = .error ⟨.endOfData, BitVec.ofNat 32 (0x80000000 + g.width)⟩ :=
  takeThen_of_groups_error (takeGroups_of_first_failure hj hbefore (takeGroup_past_end hwidth hover))

/-- A full group of an illegal value, after groups that were taken. -/
theorem takeThen_first_illegal {s : State} {g : Group} {k pos j : Nat} {last : Option Group} (hwidth : g.width < 16)
    (hj : j < k) (hbefore : ∀ i < j, Takeable s g (pos + g.width * i))
    (hfit : pos + g.width * j + g.width ≤ messageLimit s)
    (hillegal : g.emits (messageBits s (pos + g.width * j) g.width) = none) :
    takeThen s g k last pos = .error
      ⟨.illegalValue, BitVec.ofNat 32 (0x10000 * g.width + messageBits s (pos + g.width * j) g.width)⟩ :=
  takeThen_of_groups_error (takeGroups_of_first_failure hj hbefore (takeGroup_illegal hwidth hfit hillegal))

theorem takeable_threeDigits {s : State} {pos : Nat}
    (h : pos + 10 ≤ 8 * s.msgLen.toNat ∧ messageBits s pos 10 ≤ 999) : Takeable s threeDigits pos :=
  takeable_of_emits h.1 (threeDigits_emits h.2)

theorem takeable_alnumPair {s : State} {pos : Nat}
    (h : pos + 11 ≤ 8 * s.msgLen.toNat ∧ messageBits s pos 11 < 2025) : Takeable s alnumPair pos :=
  takeable_of_emits h.1 (alnumPair_emits h.2)

/-- The final group of digits by its width and its largest value. -/
theorem numericLast_of_width {c width most : Nat}
    (h : (c % 3 = 2 ∧ width = 7 ∧ most = 99) ∨ (c % 3 = 1 ∧ width = 4 ∧ most = 9)) :
    ∃ g, numericLast c = some g ∧ g.width = width ∧ width < 16 ∧ ∀ v, most < v → g.emits v = none := by
  rcases h with ⟨h, rfl, rfl⟩ | ⟨h, rfl, rfl⟩
  · exact ⟨twoDigits, numericLast_two h, rfl, by decide, fun _ => twoDigits_refuses⟩
  · exact ⟨oneDigit, numericLast_one h, rfl, by decide, fun _ => oneDigit_refuses⟩

/-- Settles O42: each clause names the first group that cannot be taken, and what it fails with. -/
theorem segPayloadFirstFailureWins : Obligations.SegPayloadFirstFailureWins := by
  unfold Obligations.SegPayloadFirstFailureWins
  rintro s _ _ _ hstate rfl rfl rfl
  refine ⟨fun hmode hc hover => ?bytes, fun hmode hc hover => ?kanji, fun hmode j hj hbefore => ?digits,
    fun hmode hfull width most last hlast hkind => ?lastDigits,
    fun hmode hodd hfull last hlast => ?lastLetter, fun hmode j hj hbefore => ?letters⟩
  case bytes =>
    refine exec_segPayload_error hstate ((payload_byte hmode _ _).trans ?_)
    exact takeThen_of_groups_error (takeGroups_past_end (g := rawByteGroup) (by decide) (fun _ => rfl) hc hover)
  case kanji =>
    refine exec_segPayload_error hstate ((payload_kanji hmode _ _).trans ?_)
    exact takeThen_of_groups_error (takeGroups_past_end (g := kanjiGroup) (by decide) (fun _ => rfl) hc hover)
  case digits =>
    have htaken : ∀ i < j, Takeable s threeDigits (s.msgPos.toNat + 10 * i) := fun i hi =>
      takeable_threeDigits (hbefore i hi)
    refine ⟨fun hover => ?_, fun hfit hv => ?_⟩ <;>
      refine exec_segPayload_error hstate ((payload_numeric hmode _ _).trans ?_)
    · exact takeThen_first_past_end (by decide) hj htaken hover
    · exact takeThen_first_illegal (by decide) hj htaken hfit (threeDigits_refuses hv)
  case lastDigits =>
    subst hlast
    obtain ⟨g, hg, rfl, hsmall, hrefuses⟩ := numericLast_of_width hkind
    have htaken : ∀ i < s.segCount.toNat / 3, Takeable s threeDigits (s.msgPos.toNat + 10 * i) := fun i hi =>
      takeable_threeDigits (hfull i hi)
    refine ⟨fun hover => ?_, fun hfit hv => ?_⟩ <;>
      refine exec_segPayload_error hstate ((payload_numeric hmode _ _).trans ?_) <;> rw [hg]
    · exact takeThen_of_last_error htaken (takeGroup_past_end hsmall hover)
    · exact takeThen_of_last_error htaken (takeGroup_illegal hsmall hfit (hrefuses _ hv))
  case lastLetter =>
    subst hlast
    have htaken : ∀ i < s.segCount.toNat / 2, Takeable s alnumPair (s.msgPos.toNat + 11 * i) := fun i hi =>
      takeable_alnumPair (hfull i hi)
    refine ⟨fun hover => ?_, fun hfit hv => ?_⟩ <;>
      refine exec_segPayload_error hstate ((payload_alphanumeric hmode _ _).trans ?_) <;> rw [alnumLast_one hodd]
    · exact takeThen_of_last_error htaken (takeGroup_past_end (by decide) hover)
    · exact takeThen_of_last_error htaken (takeGroup_illegal (by decide) hfit (alnumSingle_refuses hv))
  case letters =>
    have htaken : ∀ i < j, Takeable s alnumPair (s.msgPos.toNat + 11 * i) := fun i hi =>
      takeable_alnumPair (hbefore i hi)
    refine ⟨fun hover => ?_, fun hfit hv => ?_⟩ <;>
      refine exec_segPayload_error hstate ((payload_alphanumeric hmode _ _).trans ?_)
    · exact takeThen_first_past_end (by decide) hj htaken hover
    · exact takeThen_first_illegal (by decide) hj htaken hfit (alnumPair_refuses hv)

end Sys2Proof.Machine
end

section
/-! SUPPORT. SEG_DECODE (43_segment_decoder.md R204): the three bodies in one command, and the same bodies as three
commands, each of which drops BUSY before the next one runs. -/

namespace Sys2Proof.Machine

theorem exec_segDecode (s : State) (hmessage : s.mValid = true) (hidle : s.sstate = .idle) :
    exec .segDecode s = finish (segDecodeBody s) := by
  change finish (require (s.mValid && s.sstate == .idle) s (segDecodeBody s)) = _
  rw [hmessage, hidle]
  rfl

theorem segDecodeBody_done {s s1 s2 s3 : State} (h1 : segModeBody s = .done s1) (h2 : segCountBody s1 = .done s2)
    (h3 : segPayloadBody s2 = .done s3) : segDecodeBody s = .done s3 := by
  simp only [segDecodeBody, h1, h2, h3]

/-! The bodies do not read BUSY. -/

theorem segCountBody_blindTo_complete : BlindTo complete segCountBody :=
  .ite (p := fun s => messageLimit s < s.msgPos.toNat + countWidth s) (fun _ => rfl) (fun _ => rfl) fun _ => rfl

theorem takeGroups_complete (s : State) (g : Group) (k pos : Nat) :
    takeGroups (complete s) g k pos = takeGroups s g k pos := by
  have hgroup : ∀ pos, takeGroup (complete s) g pos = takeGroup s g pos := fun _ => rfl
  induction k generalizing pos with
  | zero => rfl
  | succ k ih => simp only [takeGroups, hgroup, ih]

theorem takeThen_complete (s : State) (g : Group) (k : Nat) (last : Option Group) (pos : Nat) :
    takeThen (complete s) g k last pos = takeThen s g k last pos := by
  have hgroup : ∀ h pos, takeGroup (complete s) h pos = takeGroup s h pos := fun _ _ => rfl
  simp only [takeThen, takeGroups_complete, hgroup]

theorem payload_complete (s : State) (mode : BitVec 4) (c pos : Nat) :
    payload (complete s) mode c pos = payload s mode c pos := by
  simp only [payload, takeThen_complete]

theorem segPayloadBody_blindTo_complete : BlindTo complete segPayloadBody := fun s => by
  have hpayload : payload (complete s) (complete s).segMode (complete s).segCount.toNat (complete s).msgPos.toNat =
      payload s s.segMode s.segCount.toNat s.msgPos.toNat := payload_complete s _ _ _
  rw [segPayloadBody, segPayloadBody, hpayload]
  cases payload s s.segMode s.segCount.toNat s.msgPos.toNat <;> rfl

/-- The end of a command drops BUSY, whatever it was. -/
theorem finish_onState_complete (r : Result) : finish (r.onState complete) = finish r := by
  cases r <;> rfl

theorem exec_segCount_complete (s : State) (hread : s.sstate = .modeRead) :
    exec .segCount (complete s) = finish (segCountBody s) := by
  rw [exec_segCount (complete s) hread, segCountBody_blindTo_complete, finish_onState_complete]

theorem exec_segPayload_complete (s : State) (hstate : s.sstate = .countRead) :
    exec .segPayload (complete s) = finish (segPayloadBody s) := by
  rw [exec_segPayload (complete s) hstate, segPayloadBody_blindTo_complete, finish_onState_complete]

/-! A sequence of commands. -/

theorem runUntilError_singleton {i : Instr} {s : State} {r : Result} (h : exec i s = finish r) :
    runUntilError [i] s = finish r := by
  cases r with
  | done t =>
    simp only [runUntilError, h, finish_done]
    split <;> rfl
  | failed e t => simp [runUntilError, h]

/-- Commands run until an error are their bodies run on, when each of them starts where the one before it ends. -/
theorem runUntilError_cons {i : Instr} {rest : List Instr} {s : State} {r : Result} {next : State → Result}
    (h : exec i s = finish r)
    (hnext : ∀ t, r = .done t → t.err = false ∧ runUntilError rest (complete t) = finish (next t)) :
    runUntilError (i :: rest) s = finish (r.andThen next) := by
  cases r with
  | done t =>
    obtain ⟨herr, hrest⟩ := hnext t rfl
    simp [runUntilError, h, herr, hrest]
  | failed e t => simp [runUntilError, h]

/-! The three commands. -/

/-- The bodies of SEG_MODE, SEG_COUNT and SEG_PAYLOAD, each with its own rollback. -/
def segmentBodies (s : State) : Result := (segModeBody s).andThen fun t => (segCountBody t).andThen segPayloadBody

theorem Result.RaisesOnly.err_of_done {codes : List ErrorCode} {s t : State} {r : Result} (h : r.RaisesOnly codes s)
    (hdone : r = .done t) : t.err = s.err := by
  subst hdone
  exact h

theorem segModeBody_done_outLen {s t : State} (h : segModeBody s = .done t) : t.outLen = s.outLen :=
  (segModeBody_writes s).of_done h .outLen (by simp)

/-- A body that rolls back or is done leaves the state it rolls back to when it fails. -/
theorem Result.eq_of_failed {r : Result} {s t : State} {e : CmdError} (h : r.RollsBack s ∨ ∃ u, r = .done u)
    (hfailed : r = .failed e t) : t = s := by
  rcases h with ⟨_, _, hback⟩ | ⟨_, hdone⟩
  · rw [hfailed] at hback
    cases hback
    rfl
  · rw [hfailed] at hdone
    cases hdone

theorem segModeBody_failed_state {s t : State} {e : CmdError} (h : segModeBody s = .failed e t) : t = s :=
  Result.eq_of_failed ((segModeBody_cases s).imp_right fun ⟨_, _, _, hdone⟩ => ⟨_, hdone⟩) h

theorem segCountBody_failed_state {s t : State} {e : CmdError} (h : segCountBody s = .failed e t) : t = s :=
  Result.eq_of_failed ((segCountBody_cases s).imp_right fun ⟨_, _, hdone⟩ => ⟨_, hdone⟩) h

theorem segPayloadBody_failed_state {s t : State} {e : CmdError} (h : segPayloadBody s = .failed e t) :
    t = dropPayload s :=
  Result.eq_of_failed ((segPayloadBody_cases s).imp_right fun ⟨_, _, _, hdone⟩ => ⟨_, hdone⟩) h

theorem runUntilError_segment (s : State) (hmessage : s.mValid = true) (hidle : s.sstate = .idle)
    (hclear : s.err = false) :
    runUntilError [.segMode, .segCount, .segPayload] s = finish (segmentBodies s) := by
  refine runUntilError_cons (exec_segMode s hmessage hidle) fun s1 h1 => ?_
  have hread := segModeBody_done_sstate s s1 h1
  have hclear1 : s1.err = false := ((segModeBody_raisesOnly s).err_of_done h1).trans hclear
  refine ⟨hclear1, runUntilError_cons (exec_segCount_complete s1 hread) fun s2 h2 => ?_⟩
  have hstate := segCountBody_done_sstate s1 s2 h2
  have hclear2 : s2.err = false := ((segCountBody_raisesOnly s1).err_of_done h2).trans hclear1
  exact ⟨hclear2, runUntilError_singleton (exec_segPayload_complete s2 hstate)⟩

theorem segmentBodies_raisesOnly (s : State) :
    (segmentBodies s).RaisesOnly
      ([.endOfData, .unsupported, .illegalMode] ++ ([.endOfData] ++ [.endOfData, .illegalValue])) s :=
  andThen_raisesOnly (segModeBody_raisesOnly s) fun t =>
    andThen_raisesOnly (segCountBody_raisesOnly t) segPayloadBody_raisesOnly

/-- SEG_DECODE ends as its three bodies end, but an error rolls back all of them save OUT_LEN. -/
theorem segDecodeBody_of_segmentBodies (s : State) :
    (∃ t, segmentBodies s = .done t ∧ segDecodeBody s = .done t) ∨
    (∃ e t, segmentBodies s = .failed e t ∧ segDecodeBody s = .failed e { s with outLen := t.outLen }) := by
  unfold segmentBodies
  cases h1 : segModeBody s with
  | failed e t =>
    obtain rfl := segModeBody_failed_state h1
    exact Or.inr ⟨e, t, rfl, by simp only [segDecodeBody, h1]⟩
  | done s1 =>
    have hout := segModeBody_done_outLen h1
    rw [andThen_done]
    cases h2 : segCountBody s1 with
    | failed e t =>
      obtain rfl := segCountBody_failed_state h2
      exact Or.inr ⟨e, t, rfl, by simp only [segDecodeBody, h1, h2, hout]⟩
    | done s2 =>
      rw [andThen_done]
      cases h3 : segPayloadBody s2 with
      | failed e t =>
        obtain rfl := segPayloadBody_failed_state h3
        exact Or.inr ⟨e, _, rfl, by simp only [segDecodeBody, h1, h2, h3, dropPayload]⟩
      | done s3 => exact Or.inl ⟨s3, rfl, segDecodeBody_done h1 h2 h3⟩

/-- Settles O43: SEG_DECODE and the three commands run the same bodies, and roll back differently. -/
theorem segDecodeIsTheThreeCommands : Obligations.SegDecodeIsTheThreeCommands := by
  unfold Obligations.SegDecodeIsTheThreeCommands
  intro s u hmessage hidle hclear hrun
  rw [runUntilError_segment s hmessage hidle hclear] at hrun
  rw [exec_segDecode s hmessage hidle]
  rcases segDecodeBody_of_segmentBodies s with ⟨t, hbodies, hdecode⟩ | ⟨e, t, hbodies, hdecode⟩
  · have hkept := (segmentBodies_raisesOnly s).err_of_done hbodies
    rw [hbodies] at hrun
    cases hrun
    rw [hdecode]
    exact ⟨fun _ => rfl, fun herr => by simp [hkept, hclear] at herr⟩
  · rw [hbodies] at hrun
    cases hrun
    rw [hdecode]
    exact ⟨fun herr => by simp at herr, fun _ => rfl⟩

/-! A byte segment. -/

/-- Settles O44: the three bodies in turn, each at the place where the one before it ends. -/
theorem segDecodeOfAByteSegment : Obligations.SegDecodeOfAByteSegment := by
  unfold Obligations.SegDecodeOfAByteSegment
  intro s p w c hmessage hidle hp hindicator hw hc hfit
  have hlimit : messageLimit s = 8 * s.msgLen.toNat := rfl
  have hlen := s.msgLen.isLt
  have hw16 : w ≤ 16 := by
    rw [hw]
    split <;> decide
  have hc16 : c < 2 ^ 16 := hc ▸ (messageBits_lt s (p + 4) w).trans_le (Nat.pow_le_pow_right (by decide) hw16)
  have hmode := segModeBody_of_indicator 4#4 s (by omega) (hp ▸ hindicator)
  rw [acceptMode_accepted 4#4 (by decide), ← hp] at hmode
  have hcount := segCountBody_fits (pos := p + 4)
    (s := { s with msgPos := BitVec.ofNat 15 (p + 4), segMode := 4#4, sstate := .modeRead })
    ((countWidth_byte _ rfl).trans hw.symm) (Nat.mod_eq_of_lt (by omega)) (show p + 4 + w ≤ messageLimit s by omega)
  obtain ⟨b, hdone, hbytes, hrest⟩ := segPayloadBody_byte (c := c) (pos := p + 4 + w)
    (s := { s with
      msgPos := BitVec.ofNat 15 (p + 4 + w), segMode := 4#4, sstate := .countRead,
      segCount := BitVec.ofNat 16 (messageBits s (p + 4) w) })
    (hc ▸ (Nat.mod_eq_of_lt hc16).symm) (Nat.mod_eq_of_lt (by omega)).symm rfl
    (show p + 4 + w + 8 * c ≤ messageLimit s by omega)
  refine ⟨b, ?_, hbytes, hrest⟩
  rw [exec_segDecode s hmessage hidle, segDecodeBody_done hmode hcount hdone, hc, ← hidle]
  rfl

end Sys2Proof.Machine
end

section
/-! SUPPORT. The commands that rewind or clear, and DECODE_ALL as the five commands (44_control.md R220, R221): each of
its bodies takes no notice of BUSY, which the command before it has dropped. -/

namespace Sys2Proof.Machine

/-! NOP and the rewinds. -/

theorem exec_nop (s : State) : exec .nop s = .next { s with busy := false } := by
  rfl

theorem exec_rawRewind (s : State) (hraw : s.rValid = true) :
    exec .rawRewind s = .next { s with rawPos := 0#15, busy := false } := by
  change finish (require s.rValid s (rawRewindBody s)) = _
  rw [require, if_pos hraw]
  rfl

theorem exec_rawClear (s : State) (hversion : s.vValid = true) (hformat : s.fValid = true) :
    exec .rawClear s = .next (complete (clearMsg { s with rawLen := 0#15, rawPos := 0#15, rValid := true })) := by
  change finish (require (s.vValid && s.fValid) s (rawClearBody s)) = _
  rw [require, if_pos (by rw [hversion, hformat]; rfl)]
  rfl

theorem exec_msgRewind (s : State) (hmessage : s.mValid = true) :
    exec .msgRewind s = .next (complete (clearSeg { s with msgPos := 0#15 })) := by
  change finish (require s.mValid s (msgRewindBody s)) = _
  rw [require, if_pos hmessage]
  rfl

/-- Settles O9: the state each of the four commands leaves, its clearing cascade written out. -/
theorem nopAndRewinds : Obligations.NopAndRewinds := by
  unfold Obligations.NopAndRewinds
  exact ⟨exec_nop, exec_rawRewind, exec_rawClear, exec_msgRewind⟩

/-! The bodies of the sub-steps do not read BUSY. -/

theorem recordFormat_complete (d : BitVec 5) (m : Nat) (s : State) :
    recordFormat d m (complete s) = complete (recordFormat d m s) := by
  cases hversion : s.vValid <;> simp only [recordFormat, complete_vValid, hversion] <;> rfl

theorem fmtDecode2Body_blindTo_complete : BlindTo complete fmtDecode2Body := fun s => by
  simp only [fmtDecode2Body, complete_fmtS1, complete_fmtS2]
  cases recover2 s.fmtS1 s.fmtS2 with
  | ok found => exact congrArg Result.done (recordFormat_complete found.1 found.2 s)
  | error e => rfl

theorem rsCorrectBody_blindTo_complete : BlindTo complete rsCorrectBody := fun s =>
  rsCorrectBody_of_same_reads s rfl rfl rfl rfl rfl fun _ _ => rfl

theorem acceptMode_blindTo_complete (m : BitVec 4) : BlindTo complete (acceptMode m) :=
  .ite (fun _ => rfl) (fun _ => rfl) (.ite (fun _ => rfl) (fun _ => rfl) fun _ => rfl)

theorem segModeBody_blindTo_complete : BlindTo complete segModeBody :=
  .ite (p := fun s => messageLimit s < s.msgPos.toNat + 4) (fun _ => rfl) (fun _ => rfl) fun s =>
    acceptMode_blindTo_complete (BitVec.ofNat 4 (messageBits s s.msgPos.toNat 4)) s

theorem segDecodeBody_blindTo_complete : BlindTo complete segDecodeBody := fun s => by
  simp only [segDecodeBody, segModeBody_blindTo_complete s]
  cases segModeBody s with
  | failed e _ => rfl
  | done s1 =>
    simp only [Result.onState_done, segCountBody_blindTo_complete s1]
    cases segCountBody s1 with
    | failed e _ => rfl
    | done s2 =>
      simp only [Result.onState_done, segPayloadBody_blindTo_complete s2]
      cases segPayloadBody s2 <;> rfl

theorem exec_fmtDecode2_complete (s : State) : exec .fmtDecode2 (complete s) = finish (fmtDecode2Body s) := by
  change finish (fmtDecode2Body (complete s)) = _
  rw [fmtDecode2Body_blindTo_complete, finish_onState_complete]

theorem exec_zzTraverse_complete (s : State) (hversion : s.vValid = true) (hformat : s.fValid = true) :
    exec .zzTraverse (complete s) = finish (zzTraverseBody s) := by
  rw [exec_zzTraverse (complete s) hversion hformat]
  rfl

theorem exec_rsCorrect_complete (s : State) (hraw : s.rValid = true) :
    exec .rsCorrect (complete s) = finish (rsCorrectBody s) := by
  rw [exec_rsCorrect (complete s) hraw, rsCorrectBody_blindTo_complete, finish_onState_complete]

theorem exec_segDecode_complete (s : State) (hmessage : s.mValid = true) (hidle : s.sstate = .idle) :
    exec .segDecode (complete s) = finish (segDecodeBody s) := by
  rw [exec_segDecode (complete s) hmessage hidle, segDecodeBody_blindTo_complete, finish_onState_complete]

/-! DECODE_ALL. -/

theorem exec_decodeAll (s : State) (hversion : s.vValid = true) : exec .decodeAll s = finish (decodeAllBody s) := by
  change finish (require s.vValid s (decodeAllBody s)) = _
  rw [hversion, require_true]

theorem fmtDecode2Body_done_vValid {s t : State} (h : fmtDecode2Body s = .done t) : t.vValid = s.vValid := by
  obtain ⟨-, -, hvalid⟩ := (fmtDecode2Body_writes s).of_done h .version (by simp)
  exact hvalid

/-- A message just corrected is ready for its first segment. -/
theorem rsCorrectBody_done_ready {s t : State} (h : rsCorrectBody s = .done t) :
    t.mValid = true ∧ t.sstate = .idle := by
  obtain ⟨-, -, message, corrections, -, rfl⟩ := (rsCorrectBody_done_iff s t).mp h
  exact ⟨rfl, rfl⟩

/-- Settles O45: each sub-step leaves what the next command's precondition asks for, and ERR as it was. -/
theorem decodeAllIsTheFiveCommands : Obligations.DecodeAllIsTheFiveCommands := by
  unfold Obligations.DecodeAllIsTheFiveCommands
  intro s hversion hclear
  rw [exec_decodeAll s hversion]
  symm
  refine runUntilError_cons (r := fmtGatherBody s) (exec_fmtGather s hversion) fun s1 h1 => ?_
  obtain ⟨hversion1, hclear1⟩ : s1.vValid = true ∧ s1.err = false := by
    cases h1
    exact ⟨hversion, hclear⟩
  refine ⟨hclear1, runUntilError_cons (exec_fmtDecode2_complete s1) fun s2 h2 => ?_⟩
  have hversion2 : s2.vValid = true := (fmtDecode2Body_done_vValid h2).trans hversion1
  have hformat2 : s2.fValid = true := fmtDecode2Body_done_fValid s1 s2 hversion1 h2
  have hclear2 : s2.err = false := ((fmtDecode2Body_raisesOnly s1).err_of_done h2).trans hclear1
  refine ⟨hclear2, runUntilError_cons (exec_zzTraverse_complete s2 hversion2 hformat2) fun s3 h3 => ?_⟩
  obtain ⟨hraw3, hclear3⟩ : s3.rValid = true ∧ s3.err = false := by
    cases h3
    exact ⟨rfl, hclear2⟩
  refine ⟨hclear3, runUntilError_cons (exec_rsCorrect_complete s3 hraw3) fun s4 h4 => ?_⟩
  obtain ⟨hmessage4, hidle4⟩ := rsCorrectBody_done_ready h4
  have hclear4 : s4.err = false := ((rsCorrectBody_raisesOnly s3).err_of_done h4).trans hclear3
  exact ⟨hclear4, runUntilError_singleton (exec_segDecode_complete s4 hmessage4 hidle4)⟩

end Sys2Proof.Machine
end

section
/-! SUPPORT. An error-free symbol under DECODE_ALL (44_control.md R221; 42_rs_deinterleaver.md R175-R177): each sub-step
by what the symbol holds, its format, its raw stream, its message and its first segment. -/

namespace Sys2Proof.Machine

/-- A buffer with a list stored from entry 0 on reads as the list. -/
theorem bufRead_bufStore_getD {α : Type} [Inhabited α] [DecidableEq α] (b : Buf α) (xs : List α) (d : α) :
    ∀ k < xs.length, bufRead (bufStore b 0 xs) k = xs.getD k d := by
  intro k hk
  have hread := bufRead_bufStore_stored b 0 xs k hk
  rwa [Nat.zero_add, ← List.getD_eq_getElem xs d hk] at hread

/-! The format. -/

theorem recover2_fmtCw (d : BitVec 5) : recover2 (fmtCw d) (fmtCw d) = .ok (d, 0) := by
  have hrem : bchrem (fmtCw d) = 0#10 := (bchrem_eq_zero_iff _).mpr ⟨d, rfl⟩
  rw [recover2, if_pos ⟨hrem, hrem, rfl⟩, fmtCw_top]

theorem decodeWord_zero : ∀ d : BitVec 5, decodeWord d 0 = d.setWidth 32 := by
  decide

/-- Two samples that are one codeword are decoded with no correction. -/
theorem fmtDecode2Body_of_codeword (d : BitVec 5) (s : State) (hversion : s.vValid = true) (h1 : s.fmtS1 = fmtCw d)
    (h2 : s.fmtS2 = fmtCw d) :
    fmtDecode2Body s = .done (applyFormat d { s with fmtResult := d.setWidth 32 }) := by
  have hfound : recover2 s.fmtS1 s.fmtS2 = .ok (d, 0) := by rw [h1, h2, recover2_fmtCw]
  rw [fmtDecode2Body, hfound, formatOutcome, recordFormat_of_version d 0 s hversion, decodeWord_zero]

/-! The raw stream. -/

theorem traversedBits_stable (s : State) (hstable : s.drift = false) :
    traversedBits s = symbolBits s.modules s.version.toNat s.maskId := by
  simp only [traversedBits, symbolBits, moduleRead_stable _ _ _ hstable]

/-- A traversal of a stable source stores the symbol's raw stream. -/
theorem zzTraverseBody_stable (s : State) (hstable : s.drift = false)
    (hlength : (order s.version.toNat).length = capBitsOf s.version.toNat) :
    zzTraverseBody s = .done (clearMsg { s with
      rawBuf := bufStore s.rawBuf 0 (symbolBits s.modules s.version.toNat s.maskId),
      rawLen := BitVec.ofNat 15 (capBitsOf s.version.toNat), rawPos := 0#15, rValid := true }) := by
  rw [zzTraverseBody, traversedBits_stable s hstable, hlength]

/-- A run of entries of a buffer that reads as a list is that part of the list. -/
theorem bufSlice_of_reads {b : Buf Bool} {bits : List Bool} {pos n : Nat}
    (hread : ∀ k < bits.length, bufRead b k = bits.getD k false) (hfit : pos + n ≤ bits.length) :
    bufSlice b pos n = (bits.drop pos).take n := by
  have hlength : ((bits.drop pos).take n).length = n := by
    rw [List.length_take, List.length_drop]
    omega
  refine List.ext_getElem ((bufSlice_length b pos n).trans hlength.symm) fun k _ hk => ?_
  rw [bufSlice_getElem, hread _ (by omega), List.getElem_take, List.getElem_drop,
    List.getD_eq_getElem _ _ (by omega)]

theorem bitsNat_of_all_false (bits : List Bool) (h : ∀ bit ∈ bits, bit = false) : bitsNat bits = 0 := by
  rw [List.eq_replicate_of_mem h]
  induction bits.length with
  | zero => rfl
  | succ n ih =>
    rw [List.replicate_succ', bitsNat_snoc, ih]
    rfl

/-- RAWBUF holds a stream of the capacity of the configured version. -/
structure HoldsRaw (s : State) (raw : List Bool) : Prop where
  length : raw.length = capBitsOf s.version.toNat
  reads : ∀ k < raw.length, bufRead s.rawBuf k = raw.getD k false

theorem HoldsRaw.rawBytes_eq {s : State} {raw : List Bool} (h : HoldsRaw s raw) :
    rawBytes s = bytesOf (totalCw s.version.toNat) raw := by
  refine List.map_congr_left fun k hk => congrArg (fun bits => BitVec.ofNat 8 (bitsNat bits)) ?_
  have hbyte : k < totalCw s.version.toNat := List.mem_range.mp hk
  have hlength := h.length
  rw [capBitsOf] at hlength
  exact bufSlice_of_reads h.reads (by omega)

theorem HoldsRaw.padValue_eq_zero {s : State} {raw : List Bool} (h : HoldsRaw s raw)
    (hpad : ∀ bit ∈ raw.drop (8 * totalCw s.version.toNat), bit = false) : padValue s = 0 := by
  refine bitsNat_of_all_false _ fun bit hbit => hpad bit ?_
  rw [rawBits, bufSlice_of_reads h.reads h.length.ge] at hbit
  exact List.mem_of_mem_take hbit

/-! The message. -/

theorem dataOf_length (lay : BlockLayout) (stream : List Byte)
    (hlen : stream.length = dataCw lay + lay.ec * blockCount lay) : (dataOf lay stream).length = dataCw lay := by
  rw [← dataStart_blockCount]
  refine length_flatMap_range_of_blockData lay _ _ fun b hb => ?_
  rw [List.length_take, blockOf_length lay stream b hlen hb]
  omega

/-- Blocks that are codewords decode to themselves, and their data is the message. -/
theorem correctBlocks_of_codewords (lay : BlockLayout) (stream : List Byte)
    (hcode : ∀ b < blockCount lay, isCodeword lay.ec (blockOf lay stream b) = true) :
    correctBlocks lay stream 0 (blockCount lay) = .ok (dataOf lay stream, 0) := by
  have hblocks := correctBlocks_of_each lay stream (blockOf lay stream) (fun _ => 0) 0 (blockCount lay)
    fun b _ hb => rsDecode_of_isCodeword _ _ (hcode b (by omega))
  rwa [← List.range_eq_range', List.map_const', List.sum_replicate, smul_zero] at hblocks

/-- A number of message bits is the number of the same bits of the byte list MSGBUF holds. -/
theorem messageBits_of_reads {s : State} {message : List Byte} {pos n : Nat}
    (hread : ∀ k < message.length, bufRead s.msgBuf k = message.getD k 0#8) (hfit : pos + n ≤ 8 * message.length) :
    messageBits s pos n = bitsAt message pos n := by
  refine congrArg bitsNat (List.map_congr_left fun k hk => ?_)
  have hbit : k < n := List.mem_range.mp hk
  rw [messageBit, hread _ (by omega)]

/-! The sub-steps. -/

/-- The state after the first three sub-steps of DECODE_ALL on a symbol with format d: its format and its raw stream. -/
def symbolRead (d : BitVec 5) (s : State) : State :=
  clearMsg { s with
    fmtS1 := fmtCw d, fmtS2 := fmtCw d, fmtResult := d.setWidth 32, ecl := d.extractLsb' 3 2,
    maskId := d.extractLsb' 0 3, fValid := true,
    rawBuf := bufStore s.rawBuf 0 (symbolBits s.modules s.version.toNat (d.extractLsb' 0 3)),
    rawLen := BitVec.ofNat 15 (capBitsOf s.version.toNat), rawPos := 0#15, rValid := true }

theorem decodeAllBody_of_format (d : BitVec 5) (s : State) (hversion : s.vValid = true) (hstable : s.drift = false)
    (hsample1 : gatherSample s formatPositions1 = fmtCw d) (hsample2 : gatherSample s formatPositions2 = fmtCw d)
    (hlength : (order s.version.toNat).length = capBitsOf s.version.toNat) :
    decodeAllBody s = (rsCorrectBody (symbolRead d s)).andThen segDecodeBody := by
  have hgather : fmtGatherBody s = .done { s with fmtS1 := fmtCw d, fmtS2 := fmtCw d } := by
    rw [fmtGatherBody, hsample1, hsample2]
  have hdecode := fmtDecode2Body_of_codeword d { s with fmtS1 := fmtCw d, fmtS2 := fmtCw d } hversion rfl rfl
  have htraverse : zzTraverseBody (applyFormat d
      { s with fmtS1 := fmtCw d, fmtS2 := fmtCw d, fmtResult := d.setWidth 32 }) = .done (symbolRead d s) :=
    zzTraverseBody_stable _ hstable hlength
  rw [decodeAllBody, hgather, andThen_done, hdecode, andThen_done, htraverse, andThen_done]

theorem symbolRead_holdsRaw (d : BitVec 5) (s : State)
    (hcapacity : (symbolBits s.modules s.version.toNat (d.extractLsb' 0 3)).length = capBitsOf s.version.toNat) :
    HoldsRaw (symbolRead d s) (symbolBits s.modules s.version.toNat (d.extractLsb' 0 3)) :=
  ⟨hcapacity, bufRead_bufStore_getD s.rawBuf _ unlisted⟩

/-- RS_CORRECT on a full raw stream with zero pad bits and no byte in error. -/
theorem rsCorrectBody_error_free {s : State} {raw : List Bool} (lay : BlockLayout) (hlay : lay = configuredLayout s)
    (hholds : HoldsRaw s raw) (hlen : s.rawLen.toNat = capBits s)
    (hpad : ∀ bit ∈ raw.drop (8 * totalCw s.version.toNat), bit = false)
    (hcode : ∀ b < blockCount lay,
      isCodeword lay.ec (blockOf lay (bytesOf (totalCw s.version.toNat) raw) b) = true) :
    rsCorrectBody s = .done (storeMessage (dataOf lay (bytesOf (totalCw s.version.toNat) raw)) 0 s) := by
  subst hlay
  refine (rsCorrectBody_done_iff s _).mpr ⟨hlen, hholds.padValue_eq_zero hpad, _, _, ?_, rfl⟩
  rw [hholds.rawBytes_eq]
  exact correctBlocks_of_codewords _ _ hcode

theorem storeMessage_reads (message : List Byte) (corrections : Nat) (s : State) :
    ∀ k < message.length, bufRead (storeMessage message corrections s).msgBuf k = message.getD k 0#8 :=
  bufRead_bufStore_getD s.msgBuf message 0#8

/-- SEG_DECODE on a message just stored whose first segment is in byte mode and fits. -/
theorem exec_segDecode_of_storedMessage (s : State) (message : List Byte) (corrections w c : Nat)
    (hlength : message.length = dataCw (configuredLayout s)) (hw : w = if s.version.toNat ≤ 9 then 8 else 16)
    (hc : c = bitsAt message 4 w) (hindicator : bitsAt message 0 4 = 4)
    (hfit : 4 + w + 8 * c ≤ 8 * dataCw (configuredLayout s)) :
    ∃ b : Buf Entry,
      exec .segDecode (storeMessage message corrections s) = .next { storeMessage message corrections s with
        outBuf := b, outLen := BitVec.ofNat 14 c, msgPos := BitVec.ofNat 15 (4 + w + 8 * c), segMode := 4#4,
        segCount := BitVec.ofNat 16 c, busy := false } ∧
      ∀ k < c, bufRead b k = BitVec.ofNat 16 (bitsAt message (4 + w + 8 * k) 8) := by
  have hbits : ∀ pos n, pos + n ≤ 8 * message.length →
      messageBits (storeMessage message corrections s) pos n = bitsAt message pos n :=
    fun pos n => messageBits_of_reads (storeMessage_reads message corrections s)
  have hlen : (storeMessage message corrections s).msgLen.toNat = dataCw (configuredLayout s) := by
    have hbound : dataCw (configuredLayout s) ≤ 2956 := dataCw_le _ s.version.isLt _
    exact Nat.mod_eq_of_lt (by omega)
  obtain ⟨b, hexec, hbytes, -⟩ := segDecodeOfAByteSegment (storeMessage message corrections s) 0 w c rfl rfl rfl
    ((hbits 0 4 (by omega)).trans hindicator) hw (hc.trans (hbits 4 w (by omega)).symm) (by omega)
  rw [Nat.zero_add] at hexec hbytes
  exact ⟨b, hexec, fun k hk => (hbytes k hk).trans (congrArg _ (hbits _ _ (by omega)))⟩

/-- Settles O46: the format and the stream are read off the symbol, the blocks decode to themselves, and the first
segment is the one of the message stored. -/
theorem decodeAllOnAnErrorFreeSymbol : Obligations.DecodeAllOnAnErrorFreeSymbol := by
  unfold Obligations.DecodeAllOnAnErrorFreeSymbol
  rintro s d _ w c lay _ message rfl hlay rfl hmessage hw hc hversion hstable h1 h40 _ hcapacity hsample1 hsample2
    hpad hcode hindicator hfit
  have hconfigured : lay = configuredLayout (symbolRead d s) := hlay
  have hstream : totalCw s.version.toNat = dataCw lay + lay.ec * blockCount lay := by
    rw [hlay, Nat.mul_comm]
    exact totalCw_eq_layout _ (by simp; omega) _ (levels_complete _)
  have hlength : message.length = dataCw lay :=
    hmessage ▸ dataOf_length lay _ (by rw [bytesOf, List.length_map, List.length_range, hstream])
  have hholds := symbolRead_holdsRaw d s hcapacity
  have hlen : (symbolRead d s).rawLen.toNat = capBits (symbolRead d s) := by
    have hbound : capBitsOf s.version.toNat ≤ 29648 := capBitsOf_le _ s.version.isLt
    exact (Nat.mod_eq_of_lt (by omega)).trans (if_pos hversion).symm
  have hcorrect : rsCorrectBody (symbolRead d s) = .done (storeMessage message 0 (symbolRead d s)) :=
    hmessage ▸ rsCorrectBody_error_free lay hconfigured hholds hlen hpad hcode
  have hrun : exec .decodeAll s = exec .segDecode (storeMessage message 0 (symbolRead d s)) := by
    rw [exec_decodeAll s hversion,
      decodeAllBody_of_format d s hversion hstable hsample1 hsample2 (order_length _ h1 h40), hcorrect, andThen_done,
      exec_segDecode _ rfl rfl]
  obtain ⟨b, hsegment, hbytes⟩ := exec_segDecode_of_storedMessage (symbolRead d s) message 0 w c
    (hconfigured ▸ hlength) hw hc hindicator (hconfigured ▸ hfit)
  refine ⟨_, hrun.trans hsegment, ?_, hholds.reads, storeMessage_reads message 0 (symbolRead d s), hbytes⟩
  rw [hconfigured]
  rfl

end Sys2Proof.Machine
end

section
/-! SUPPORT. What a failing command leaves (60_exceptions.md R233, R234): every command but DECODE_ALL is a guarded body
that completes, or fails in the state it started from, SEG_PAYLOAD and SEG_DECODE perhaps with OUT_LEN at 0. -/

namespace Sys2Proof.Machine

/-- The states a failing command may keep of s, before the error record is written (60_exceptions.md R234). -/
def KeptByFailure (i : Instr) (s kept : State) : Prop :=
  kept = s ∨ ((i = .segPayload ∨ i = .segDecode) ∧ kept = dropPayload s)

/-- The result of command i fails in a state it may keep of s, or completes with ERR as it was. -/
def Result.Restores (r : Result) (i : Instr) (s : State) : Prop :=
  (∃ kept, KeptByFailure i s kept ∧ r.RollsBack kept) ∨ ∃ t, r = .done t ∧ t.err = s.err

/-- A body that rolls all of its work back restores, whatever command it belongs to. -/
theorem Result.Restores.of_rollsBack {r : Result} {i : Instr} {s : State}
    (h : r.RollsBack s ∨ ∃ t, r = .done t ∧ t.err = s.err) : r.Restores i s :=
  h.imp_left fun hback => ⟨s, .inl rfl, hback⟩

theorem fmtDecode1Body_restores (s : State) : (fmtDecode1Body s).Restores .fmtDecode1 s :=
  .of_rollsBack <| (fmtDecode1Body_cases s).imp_right fun ⟨d, m, hdone⟩ => ⟨_, hdone, recordFormat_err d m s⟩

theorem fmtDecode2Body_restores (s : State) : (fmtDecode2Body s).Restores .fmtDecode2 s :=
  .of_rollsBack <| (fmtDecode2Body_cases s).imp_right fun ⟨d, m, hdone⟩ => ⟨_, hdone, recordFormat_err d m s⟩

/-- A payload error drops OUT_LEN with the payload (43_segment_decoder.md R197). -/
theorem segPayloadBody_restores (s : State) : (segPayloadBody s).Restores .segPayload s :=
  (segPayloadBody_cases s).imp (fun hback => ⟨_, .inr ⟨.inl rfl, rfl⟩, hback⟩)
    fun ⟨_, _, _, hdone⟩ => ⟨_, hdone, rfl⟩

/-- An error in the mode or the count rolls back everything, one in the payload all but OUT_LEN
(43_segment_decoder.md R204). -/
theorem segDecodeBody_restores (s : State) : (segDecodeBody s).Restores .segDecode s := by
  rcases segDecodeBody_cases s with hback | hback | ⟨_, _, t, _, _, _, hdone⟩
  · exact .inl ⟨s, .inl rfl, hback⟩
  · exact .inl ⟨dropPayload s, .inr ⟨.inr rfl, rfl⟩, hback⟩
  · exact .inr ⟨t, hdone, (segDecodeBody_raisesOnly s).err_of_done hdone⟩

/-- The errors of the two checks before a body keep the whole state (30_encoding.md R96). -/
theorem guarded_restores {i : Instr} {s : State} {body : Result} (h : body.Restores i s) :
    (guarded i s body).Restores i s := by
  unfold guarded
  split
  · rcases require_cases (precondition i s) s body with ⟨_, heq⟩ | ⟨_, heq⟩ <;> rw [heq]
    · exact h
    · exact .inl ⟨s, .inl rfl, _, by simp, rfl⟩
  · exact .inl ⟨s, .inl rfl, _, by simp [illegalCommand], rfl⟩

/-- Every command but DECODE_ALL is the end of a guarded body that restores. -/
theorem exec_restores (i : Instr) (s : State) (hall : i ≠ .decodeAll) :
    ∃ body, exec i s = finish (guarded i s body) ∧ body.Restores i s := by
  cases i with
  | decodeAll => exact absurd rfl hall
  | nop | setFormat _ | fmtGather | zzTraverse | rawRewind | rawClear | msgRewind =>
    exact ⟨_, rfl, .inr ⟨_, rfl, rfl⟩⟩
  | fmtEncode fv => exact ⟨fmtEncodeBody fv s, rfl, .inr ⟨_, rfl, rfl⟩⟩
  | fmtCheck sel => exact ⟨fmtCheckBody sel s, rfl, .inr ⟨_, rfl, rfl⟩⟩
  | maskEval mid row col => exact ⟨maskEvalBody mid row col s, rfl, .inr ⟨_, rfl, rfl⟩⟩
  | setVersion ver =>
    exact ⟨_, rfl, .of_rollsBack <| (setVersionBody_cases ver s).imp_right fun ⟨_, hdone⟩ => ⟨_, hdone, rfl⟩⟩
  | setSide side =>
    exact ⟨_, rfl, .of_rollsBack <| (setSideBody_cases side s).imp_right fun ⟨_, _, hdone⟩ => ⟨_, hdone, rfl⟩⟩
  | fmtDecode1 => exact ⟨_, rfl, fmtDecode1Body_restores s⟩
  | fmtDecode2 => exact ⟨_, rfl, fmtDecode2Body_restores s⟩
  | dzQuery x y =>
    exact ⟨_, rfl, .of_rollsBack <| (dzQueryBody_cases x y s).imp_right fun ⟨_, hdone⟩ => ⟨_, hdone, rfl⟩⟩
  | rawRead n =>
    exact ⟨_, rfl, .of_rollsBack <| (rawReadBody_cases n s).imp_right fun ⟨_, _, hdone⟩ => ⟨_, hdone, rfl⟩⟩
  | rawAppend n =>
    exact ⟨_, rfl, .of_rollsBack <| (rawAppendBody_cases n s).imp_right fun ⟨_, hdone⟩ => ⟨_, hdone, rfl⟩⟩
  | rsCorrect =>
    exact ⟨_, rfl, .of_rollsBack <| (rsCorrectBody_cases s).imp_right fun ⟨_, _, hdone⟩ => ⟨_, hdone, rfl⟩⟩
  | msgRead n =>
    exact ⟨_, rfl, .of_rollsBack <| (msgReadBody_cases n s).imp_right fun ⟨_, _, hdone⟩ => ⟨_, hdone, rfl⟩⟩
  | segMode =>
    exact ⟨_, rfl, .of_rollsBack <| (segModeBody_cases s).imp_right fun ⟨_, _, _, hdone⟩ => ⟨_, hdone, rfl⟩⟩
  | segCount =>
    exact ⟨_, rfl, .of_rollsBack <| (segCountBody_cases s).imp_right fun ⟨_, _, hdone⟩ => ⟨_, hdone, rfl⟩⟩
  | segPayload => exact ⟨_, rfl, segPayloadBody_restores s⟩
  | segDecode => exact ⟨_, rfl, segDecodeBody_restores s⟩

/-- A command that was started with ERR = 0 and ends with ERR = 1 failed: it raised its error in a state it may keep. -/
theorem Result.Restores.raised {r : Result} {i : Instr} {s t : State} (h : r.Restores i s) (hclear : s.err = false)
    (hend : finish r = .next t) (herr : t.err = true) : ∃ e kept, KeptByFailure i s kept ∧ t = raiseError e kept := by
  rcases h with ⟨kept, hkept, e, _, rfl⟩ | ⟨u, rfl, hleft⟩ <;> cases hend
  · exact ⟨e, kept, hkept, rfl⟩
  · simp [hleft, hclear] at herr

/-- Settles O50: the state a failing command kept is the one it started from, perhaps with OUT_LEN at 0, and raising the
error adds the error record and BUSY. -/
theorem failingCommandRollsBack : Obligations.FailingCommandRollsBack := by
  unfold Obligations.FailingCommandRollsBack
  intro i s t hclear hall hexec herr
  obtain ⟨body, hbody, hrestores⟩ := exec_restores i s hall
  obtain ⟨e, kept, hkept, rfl⟩ := (guarded_restores hrestores).raised hclear (hbody.symm.trans hexec) herr
  rcases hkept with rfl | ⟨hpayload, rfl⟩
  · exact ⟨rfl, .inl rfl⟩
  · exact ⟨rfl, .inr ⟨hpayload, rfl⟩⟩

end Sys2Proof.Machine
end

section
/-! SUPPORT. A command in flight (70_reset_and_hazards.md R268): its end lets BUSY fall, and each input that lands before
its end takes one from its lag or abandons it. -/

namespace Sys2Proof.Machine

theorem finish_busy (r : Result) (t : State) (h : finish r = .next t) : t.busy = false := by
  rcases (finish_next_iff r t).mp h with ⟨s, -, rfl⟩ | ⟨e, s, -, rfl⟩
  · exact complete_busy s
  · exact raiseError_busy e s

theorem exec_busy (i : Instr) (s t : State) (h : exec i s = .next t) : t.busy = false := by
  obtain ⟨body, hexec, -⟩ := exec_guarded i s
  exact finish_busy _ t (hexec.symm.trans h)

/-- The engine's turn ends the command in flight, an illegal word by its error. -/
theorem runCommand_busy (s t : State) (h : runCommand s = .next t) : t.busy = false := by
  rcases runCommand_cases s with ⟨i, -, hrun⟩ | ⟨_, -, hrun⟩
  · exact exec_busy i s t (hrun.symm.trans h)
  · cases hrun.symm.trans h
    exact raiseError_busy _ s

/-- While a command is in flight an input abandons it, by a reset, or leaves it in flight with its lag: a CMD write is
dropped and accepts no other command. -/
theorem handleEvent_in_flight (e : Event) (s : State) (hbusy : s.busy = true) :
    (handleEvent e s).busy = false ∨ ((handleEvent e s).busy = true ∧ (handleEvent e s).lag = s.lag) := by
  rcases handleEvent_cases e s with ⟨_, _, _, heq⟩ | ⟨_, heq⟩ | ⟨_, heq⟩ | ⟨w, _, heq⟩ | ⟨_, -, heq⟩ |
    ⟨_, _, _, _, hidle, heq⟩ | ⟨_, heq⟩ <;> rw [heq]
  · exact .inr ⟨hbusy, rfl⟩
  · exact .inl rfl
  · exact .inr ⟨hbusy, rfl⟩
  · rw [submitCommand_of_refusing w s (.inl hbusy)]
    exact .inr ⟨hbusy, rfl⟩
  · exact .inr ⟨hbusy, rfl⟩
  · simp [hbusy] at hidle
  · exact .inr ⟨hbusy, rfl⟩

/-- A step with a command in flight ends it, or takes one input from a positive lag. -/
theorem step_in_flight (s t : State) (hbusy : s.busy = true) (h : step s = .next t) :
    t.busy = false ∨ (t.busy = true ∧ s.lag = t.lag + 1) := by
  rcases step_cases s t h with ⟨-, -, hrun⟩ | ⟨hidle | ⟨hlag, hevents⟩, rfl⟩
  · exact .inl (runCommand_busy s t hrun)
  · simp [hbusy] at hidle
  · obtain ⟨e, rest, hcons⟩ := List.exists_cons_of_ne_nil hevents
    rw [takeInput_cons s e rest hcons]
    rcases handleEvent_in_flight e { s with events := rest, lag := s.lag - 1 } hbusy with hend | ⟨hstill, hleft⟩
    · exact .inl hend
    · refine .inr ⟨hstill, ?_⟩
      rw [hleft]
      exact (Nat.succ_pred_eq_of_ne_zero hlag).symm

/-- Settles O8, by induction on the lag: a step that does not end the command leaves it in flight with a smaller one. -/
theorem commandEndsWithinItsLag : Obligations.CommandEndsWithinItsLag := by
  unfold Obligations.CommandEndsWithinItsLag
  intro s hbusy
  induction hlag : s.lag using Nat.strong_induction_on generalizing s with
  | h n ih =>
    obtain ⟨t, hstep⟩ := step_is_next s
    rcases step_in_flight s t hbusy hstep with hend | ⟨hstill, hless⟩
    · exact ⟨1, by omega, t, (run_one s).trans hstep, hend⟩
    · obtain ⟨k, hk, u, hrun, hend⟩ := ih t.lag (by omega) t hstill rfl
      exact ⟨k + 1, by omega, u, (run_succ_of_next k s t hstep).trans hrun, hend⟩

/-! The invariant after reset (70_reset_and_hazards.md R261). -/

/-- Settles O47: the reset state meets each layer of the invariant. -/
theorem invAtReset : Obligations.InvAtReset := by
  unfold Obligations.InvAtReset
  exact (inv_iff_layers State.reset).mpr reset_layers

end Sys2Proof.Machine
end
